-- ==== Sys2Proof/Word.lean ====
section
/-! DEFINITION. The two bit-vector types of the block: 32-bit host registers and 8-bit bus bytes
(spec/00_scope.md R7). -/

namespace Sys2Proof

/-- A host-visible register, an operand or a command word (R7: 32 bits). -/
abbrev Word := BitVec 32

/-- A byte of the bus request port or of the external chip register space (R7: 8 bits). -/
abbrev Byte := BitVec 8

end Sys2Proof
end

