-- ==== Sys2Proof/Syntax.lean ====
section
/-! DEFINITION. The commands of the block, one constructor per row of spec/opcode_table.json
(spec/30_encoding.md R104). -/

namespace Sys2Proof

/-- The four logical motor ports (spec/42_device_facade.md R203). -/
inductive MotorPort where
  | p0 | p1 | p2 | p3
  deriving DecidableEq, Repr

/-- The six frequency labels A..F (spec/42_device_facade.md R205). -/
inductive Preset where
  | a | b | c | d | e | f
  deriving DecidableEq, Repr

/-- A command. `sel` is the SEL byte of an opcode that ignores it (R102: any value); `ch` is the signed reading of
SEL as a channel, whose values outside 0..15 the block accepts and then ignores. The wider operands come from
the snapshot, not from the word (R103). -/
inductive Instr where
  | nop (sel : Byte)
  | init (sel : Byte)
  | calcPrescale (sel : Byte)
  | setFreq (sel : Byte)
  | setChannel (ch : Int)
  | clampTick (sel : Byte)
  | mapLinear (sel : Byte)
  | mapMotor (sel : Byte)
  | servo (ch : Int)
  | servoRange (ch : Int)
  | motor (port : MotorPort)
  | setFreqPreset (preset : Preset)
  | ultrasonic (sel : Byte)
  | freqDetect (ch : Int)
  deriving DecidableEq, Repr

end Sys2Proof
end

