-- ==== Sys2Proof/WellFormed.lean ====
section
/-! DEFINITION. Which commands a word can carry: a channel must fit the signed byte SEL
(spec/30_encoding.md R102: "an integer in -128..127"). Every other operand is whole by its type. -/

namespace Sys2Proof

/-- A channel selector fits `sext_8(SEL)` (R102). -/
def channelEncodable (ch : Int) : Bool := decide (-128 ≤ ch) && decide (ch ≤ 127)

/-- The command has a command word. -/
def Instr.wellFormed : Instr → Bool
  | .nop _ => true
  | .init _ => true
  | .calcPrescale _ => true
  | .setFreq _ => true
  | .setChannel ch => channelEncodable ch
  | .clampTick _ => true
  | .mapLinear _ => true
  | .mapMotor _ => true
  | .servo ch => channelEncodable ch
  | .servoRange ch => channelEncodable ch
  | .motor _ => true
  | .setFreqPreset _ => true
  | .ultrasonic _ => true
  | .freqDetect ch => channelEncodable ch

/-- `Instr.wellFormed` as a decidable proposition. -/
abbrev Instr.WellFormed (i : Instr) : Prop := i.wellFormed = true

end Sys2Proof
end

