-- ==== Sys2Proof/Decode.lean ====
section
/-! DEFINITION. The decoder of command words, total on any bytes and rejecting by name, and the encoder
(spec/30_encoding.md R100 to R106). -/

namespace Sys2Proof

/-- Why a word is no command, in the order the block checks (spec/60_exceptions.md R273): RESERVED_BITS,
ILLEGAL_OP, BAD_SELECTOR; `truncated` when fewer than the four bytes of a word are given. -/
inductive DecodeError where
  | truncated
  | reservedBits
  | illegalOp
  | badSelector
  deriving DecidableEq, Repr

/-- Field OP of a command word (R100). -/
def opField (w : Word) : Byte := w.extractLsb' 0 8

/-- Field SEL of a command word (R100). -/
def selField (w : Word) : Byte := w.extractLsb' 8 8

/-- Field RSV of a command word (R100). -/
def rsvField (w : Word) : BitVec 16 := w.extractLsb' 16 16

/-- The word `(SEL << 8) | OP` with RSV = 0 (R104). -/
def commandWord (op sel : Byte) : Word := (0#16 ++ sel) ++ op

/-- A motor port from SEL: 0..3, anything else is a bad selector (R102). -/
def decodePort (sel : Byte) : Except DecodeError MotorPort :=
  if sel = 0 then .ok .p0
  else if sel = 1 then .ok .p1
  else if sel = 2 then .ok .p2
  else if sel = 3 then .ok .p3
  else .error .badSelector

/-- A preset from SEL: 0..5 for A..F, anything else is a bad selector (R102, R205). -/
def decodePreset (sel : Byte) : Except DecodeError Preset :=
  if sel = 0 then .ok .a
  else if sel = 1 then .ok .b
  else if sel = 2 then .ok .c
  else if sel = 3 then .ok .d
  else if sel = 4 then .ok .e
  else if sel = 5 then .ok .f
  else .error .badSelector

/-- The command of an opcode and a selector: the opcode map of R104 with the selector reading of R102. -/
def decodeFields (op sel : Byte) : Except DecodeError Instr :=
  if op = 0x00 then .ok (.nop sel)
  else if op = 0x01 then .ok (.init sel)
  else if op = 0x02 then .ok (.calcPrescale sel)
  else if op = 0x03 then .ok (.setFreq sel)
  else if op = 0x04 then .ok (.setChannel sel.toInt)
  else if op = 0x05 then .ok (.clampTick sel)
  else if op = 0x06 then .ok (.mapLinear sel)
  else if op = 0x07 then .ok (.mapMotor sel)
  else if op = 0x08 then .ok (.servo sel.toInt)
  else if op = 0x09 then .ok (.servoRange sel.toInt)
  else if op = 0x0A then
    match decodePort sel with
    | .ok p => .ok (.motor p)
    | .error e => .error e
  else if op = 0x0B then
    match decodePreset sel with
    | .ok p => .ok (.setFreqPreset p)
    | .error e => .error e
  else if op = 0x0C then .ok (.ultrasonic sel)
  else if op = 0x0D then .ok (.freqDetect sel.toInt)
  else .error .illegalOp

/-- Decode a command word: RSV first, then OP, then SEL (R105, R106, R102; the order of R273). -/
def decodeWord (w : Word) : Except DecodeError Instr :=
  if rsvField w = 0 then decodeFields (opField w) (selField w) else .error .reservedBits

/-- Decode the first command of a list of byte lanes, the lowest lane first (spec/20_memory.md R73: little-endian;
R101: every command is one 32-bit word), with the bytes after it. -/
def decodeBytes : List Byte → Except DecodeError (Instr × List Byte)
  | b0 :: b1 :: b2 :: b3 :: rest =>
    match decodeWord (((b3 ++ b2) ++ b1) ++ b0) with
    | .ok i => .ok (i, rest)
    | .error e => .error e
  | _ => .error .truncated

/-- The selector byte of a motor port (R102). -/
def MotorPort.sel : MotorPort → Byte
  | .p0 => 0
  | .p1 => 1
  | .p2 => 2
  | .p3 => 3

/-- The selector byte of a preset label (R205). -/
def Preset.sel : Preset → Byte
  | .a => 0
  | .b => 1
  | .c => 2
  | .d => 3
  | .e => 4
  | .f => 5

/-- The opcode of a command (R104). -/
def Instr.opcode : Instr → Byte
  | .nop _ => 0x00
  | .init _ => 0x01
  | .calcPrescale _ => 0x02
  | .setFreq _ => 0x03
  | .setChannel _ => 0x04
  | .clampTick _ => 0x05
  | .mapLinear _ => 0x06
  | .mapMotor _ => 0x07
  | .servo _ => 0x08
  | .servoRange _ => 0x09
  | .motor _ => 0x0A
  | .setFreqPreset _ => 0x0B
  | .ultrasonic _ => 0x0C
  | .freqDetect _ => 0x0D

/-- The selector byte of a command (R102). -/
def Instr.selector : Instr → Byte
  | .nop sel => sel
  | .init sel => sel
  | .calcPrescale sel => sel
  | .setFreq sel => sel
  | .setChannel ch => BitVec.ofInt 8 ch
  | .clampTick sel => sel
  | .mapLinear sel => sel
  | .mapMotor sel => sel
  | .servo ch => BitVec.ofInt 8 ch
  | .servoRange ch => BitVec.ofInt 8 ch
  | .motor p => p.sel
  | .setFreqPreset p => p.sel
  | .ultrasonic sel => sel
  | .freqDetect ch => BitVec.ofInt 8 ch

/-- The command word of a command (R104: `(SEL << 8) | OP` with RSV = 0). -/
def encode (i : Instr) : Word := commandWord i.opcode i.selector

/-- The four byte lanes of a word, the lowest lane first (R73). -/
def wordBytes (w : Word) : List Byte :=
  [w.extractLsb' 0 8, w.extractLsb' 8 8, w.extractLsb' 16 8, w.extractLsb' 24 8]

/-- The instruction read from `nbits` table bits `w`: its bits above `nbits` are 0. A word of more than 32 bits is
no command (R101). -/
def decodeTableWord (nbits w : Nat) : Option Instr :=
  if w % 2 ^ nbits < 2 ^ 32 then
    match decodeBytes (wordBytes (BitVec.ofNat 32 (w % 2 ^ nbits))) with
    | .ok (i, _) => some i
    | .error _ => none
  else none

end Sys2Proof
end

