-- ==== Sys2Proof/Config.lean ====
section
/-! DEFINITION. What the block does not fix itself: the build-time parameters the spec leaves OPEN or gives only
a general-knowledge default for (spec/00_scope.md R6, spec/93_implementation_defined.md X8 to X10), and the
free inputs of a cycle (R10). -/

namespace Sys2Proof

/-- The MODE1 masks of setFreqSeq (spec/40_pwm_controller.md R133, X8): parameters of the build. The state carries
them unchanged, so a statement about every state holds for every choice of them (log entry 1). -/
structure Masks where
  sleepAnd : Byte
  sleepOr : Byte
  restartOr : Byte
  deriving DecidableEq, Repr

/-- One HOST access of a cycle: `MemRead(off, 4)` or `MemWrite(off, 4, v)` at a byte offset of the 64-byte
window (spec/00_scope.md R13, spec/20_memory.md R72). -/
inductive HostAccess where
  | read (off : BitVec 6)
  | write (off : BitVec 6) (v : Word)
  deriving DecidableEq, Repr

/-- What the environment does in one cycle (R9, R10): the reset input RST, the levels of ECHO_IN and FREQ_IN,
XPORT's BACK and BRDATA, and at most one HOST access. -/
structure CycleInput where
  rst : Bool
  echoIn : Bool
  freqIn : Bool
  back : Bool
  brdata : Byte
  host : Option HostAccess
  deriving DecidableEq, Repr, Inhabited

/-- The input of a cycle that the state's list of coming inputs does not name: a free draw (R10, log entry 2). -/
opaque Config.freeInput : Nat → CycleInput

/-- BDATA while a READ1 is outstanding: the spec gives it no value, so it is free (R44, log entry 3). -/
opaque Config.readBdata : Nat → Word

/-- I2C_ADDR, the external chip's 7-bit bus address: OPEN, applied by XPORT, read by nothing in the block
(spec/10_state.md R44, decision D36). -/
opaque Config.i2cAddr : BitVec 7

/-- BLOCK_BASE, where the platform places the host window: OPEN, decoded by the platform (spec/20_memory.md R78). -/
opaque Config.blockBase : Nat

end Sys2Proof
end

