-- ==== Sys2Proof/Machine/Params.lean ====
section
/-! DEFINITION. The implementation parameters of spec/00_scope.md R6 that have a value there. -/

namespace Sys2Proof.Machine

/-- OSC_HZ / TICKS_PER_CYCLE * 65536 = 25_000_000 / 4096 * 65536, the numerator of R132's `400_000_000 / A`. -/
def oscQuotient : Nat := 25000000 * 65536 / 4096

/-- TICK_MAX. -/
def tickMax : Int := 4095

/-- REG_MODE1. -/
def regMode1 : Byte := 0x00

/-- REG_PRESCALE. -/
def regPrescale : Byte := 0xFE

/-- REG_LED0; channel c is at 0x06 + 4*c. -/
def regLed0 : Nat := 0x06

/-- INIT_MODE1. -/
def initMode1 : Byte := 0x00

/-- INIT_HZ in UQ16.16: 50 * 65536 = 0x00320000 (R131). -/
def initHz : Nat := 50 * 65536

/-- SETTLE_US. -/
def settleUs : Nat := 5000

/-- SERVO_MIN_TICK. -/
def servoMinTick : Int := 104

/-- SERVO_MAX_TICK. -/
def servoMaxTick : Int := 510

/-- SERVO_DEG_MIN. -/
def servoDegMin : Int := 0

/-- SERVO_DEG_MAX. -/
def servoDegMax : Int := 180

/-- MOTOR_SCALE. -/
def motorScale : Int := 16

/-- MOTOR_SAT. -/
def motorSat : Int := 4095

/-- TRIG_LOW_US. -/
def trigLowUs : Nat := 2

/-- TRIG_HIGH_US. -/
def trigHighUs : Nat := 10

/-- US_PER_CM. -/
def usPerCm : Nat := 58

/-- ECHO_TIMEOUT_US = ECHO_RANGE_CM * US_PER_CM = 500 * 58 (R231). -/
def echoTimeoutUs : Nat := 500 * 58

/-- FREQ_ITER. -/
def freqIter : Nat := 2000

/-- FREQ_WINDOW. -/
def freqWindow : Nat := 1000

/-- FREQ_SAMPLE_US. -/
def freqSampleUs : Nat := 1000

/-- FREQ_CORR. -/
def freqCorr : Int := 2

/-- FREQ_DRIVE_ON. -/
def freqDriveOn : Int := 0

/-- FREQ_DRIVE_OFF. -/
def freqDriveOff : Int := 4095

/-- The default MODE1 masks 0x7F, 0x10 and 0xA1: PRESUMED, general knowledge the spec marks as such
(R6, R133; log entry 1). -/
def defaultMasks : Masks := { sleepAnd := 0x7F, sleepOr := 0x10, restartOr := 0xA1 }

end Sys2Proof.Machine
end

