-- ==== Sys2Proof/Machine/State.lean ====
section
/-! DEFINITION. The state of the block (spec/10_state.md R30 to R50), the ways a step can stop, and the state
after reset (spec/70_reset_and_hazards.md R300). -/

namespace Sys2Proof.Machine

/-- Five operand words: the registers ARG0..ARG4 (R31), or the snapshot SNAP[0..4] (R34). -/
structure Operands where
  a0 : Word
  a1 : Word
  a2 : Word
  a3 : Word
  a4 : Word
  deriving DecidableEq, Repr

/-- The STATUS register's fields (R37); bits 31:13 are reserved and read 0, so they hold nothing. -/
structure Status where
  busy : Bool
  ready : Bool
  done : Bool
  err : Bool
  errcode : BitVec 4
  pscOor : Bool
  chIgn : Bool
  noEcho : Bool
  clamped : Bool
  ovf : Bool
  deriving DecidableEq, Repr

/-- LAST_PSC (R41): field VALID (bit 8) and field PSC (bits 7:0); bits 31:9 read 0. -/
structure LastPsc where
  valid : Bool
  psc : Byte
  deriving DecidableEq, Repr

/-- BKIND (R44): 0 = WRITE1, 1 = WRITE4, 2 = READ1; 3 is never driven. -/
inductive BusKind where
  | write1
  | write4
  | read1
  deriving DecidableEq, Repr

/-- The bus request port's registered outputs BREQ, BKIND, BREG and BDATA (R44). -/
structure BusPort where
  breq : Bool
  kind : BusKind
  reg : Byte
  data : Word
  deriving DecidableEq, Repr

/-- A position inside setFreqSeq (spec/40_pwm_controller.md R133): the request that is outstanding (or was just
acknowledged), or the settle wait. -/
inductive FreqPos where
  | read
  | sleep
  | prescale
  | restore
  | settle
  | restart
  deriving DecidableEq, Repr

/-- The `step` of `RUN(op, step)` (R33): the position in the pseudocode of the running command.
At a position that names a bus request, BREQ = 1 while the request waits for its acknowledgement, and BREQ = 0 in the
one cycle after it, when the pseudocode resumes (R45). `left` counts the cycles of a Wait that still pass before
the resuming cycle (R130). -/
inductive SeqPos where
  | start
  | initWake
  | freq (p : FreqPos)
  | presetMode1
  | chanFirst
  | chanSecond
  | trigLow (left : Nat)
  | trigHigh (left : Nat)
  | trigFall
  | echo
  | sample
  deriving DecidableEq, Repr

/-- SEQ_STATE (R33). The `op` of `RUN(op, step)` is the accepted opcode, which OP_L holds. -/
inductive SeqState where
  | idle
  | run (pos : SeqPos)
  deriving DecidableEq, Repr

/-- Unit P's latches (R48). -/
structure UnitP where
  old : Byte
  pscb : Byte
  settle : BitVec 13
  initpend : Bool
  deriving DecidableEq, Repr

/-- UPH, the phase of unit U (R49). -/
inductive EchoPhase where
  | trigLo
  | trigHi
  | waitHigh
  | high
  deriving DecidableEq, Repr

/-- Unit U's counters (R49). -/
structure UnitU where
  uph : EchoPhase
  ut : BitVec 16
  ua : BitVec 16
  deriving DecidableEq, Repr

/-- Unit F's counters (R50); `prev = none` is PREV = NONE. -/
structure UnitF where
  fk : BitVec 11
  fph : BitVec 10
  ec : BitVec 16
  prev : Option Bool
  deriving DecidableEq, Repr

/-- Bytes of the external chip register space (spec/20_memory.md R70, 256 one-byte registers), by address: what the
block has written there with an acknowledgement since its reset. Strictly rising addresses; an unlisted address reads
as no value, since the block assumes nothing about the chip (R303, log entry 4). -/
abbrev Memory := List Host.Cell

/-- The block's state (R30), and after it the model's own fields: what a HOST read of the last cycle
returned (log entry 5), the record of acknowledged external writes (log entry 4), the build's MODE1 masks
(log entry 1), the coming cycle inputs, oldest first, and the number of the cycle (log entry 2). -/
structure State where
  arg : Operands
  result0 : Word
  result1 : Word
  status : Status
  lastPsc : LastPsc
  opL : Byte
  selL : Byte
  snap : Operands
  seq : SeqState
  bus : BusPort
  trigOut : Bool
  unitP : UnitP
  unitU : UnitU
  unitF : UnitF
  rdata : Option Word
  chip : Memory
  masks : Masks
  env : List CycleInput
  cycle : Nat
  deriving DecidableEq, Repr

/-- Why a step stops. None is reachable from reset: `StepNeverStops` states so. The spec has no trap (R270). -/
inductive Fault where
  /-- A meaning was asked for SEQ's cycle while SEQ_STATE = IDLE. Raised by every meaning; `step` never asks.
  Safe: the spec gives SEQ no action there (R33). -/
  | notRunning
  /-- SEQ_STATE names a position that the running command's pseudocode does not have. Raised by every meaning.
  Safe: the spec gives no action there (R33: "It moves only as the command rules say"). -/
  | offPseudocode
  /-- The operand condition of code 5 holds of the snapshot (hz = 0, inMin = inMax). Raised by CALC_PRESCALE,
  SET_FREQ and MAP_LINEAR; acceptance rejects such a request first (R273). Safe: no value exists (decisions D11, D17). -/
  | divZero
  /-- OP_L and SEL_L hold no command although SEQ_STATE is not IDLE. Raised by `step`.
  Safe: acceptance latches only valid commands (R36, R273). -/
  | badLatch
  deriving DecidableEq, Repr

/-- Why the model gives no meaning. -/
inductive Refusal where
  /-- The instruction has no meaning yet, by its mnemonic in spec/opcode_table.json. Raised by a refused arm of `exec`
  (there is none). Safe. -/
  | notModelled (mnemonic : String)
  deriving DecidableEq, Repr

/-- The three outcomes of one SEQ cycle or one step. -/
abbrev Result := Host.Outcome State Fault Refusal

/-- Every state element at its reset value (R300): all registers, flags, latches, port outputs and counters 0, SEQ_STATE
IDLE, UPH TRIG_LO, PREV NONE; nothing read or recorded, the default masks, no input named, cycle 0. -/
def State.reset : State where
  arg := { a0 := 0, a1 := 0, a2 := 0, a3 := 0, a4 := 0 }
  result0 := 0
  result1 := 0
  status :=
    { busy := false, ready := false, done := false, err := false, errcode := 0,
      pscOor := false, chIgn := false, noEcho := false, clamped := false, ovf := false }
  lastPsc := { valid := false, psc := 0 }
  opL := 0
  selL := 0
  snap := { a0 := 0, a1 := 0, a2 := 0, a3 := 0, a4 := 0 }
  seq := .idle
  bus := { breq := false, kind := .write1, reg := 0, data := 0 }
  trigOut := false
  unitP := { old := 0, pscb := 0, settle := 0, initpend := false }
  unitU := { uph := .trigLo, ut := 0, ua := 0 }
  unitF := { fk := 0, fph := 0, ec := 0, prev := none }
  rdata := none
  chip := []
  masks := defaultMasks
  env := []
  cycle := 0

end Sys2Proof.Machine
end

