-- ==== Sys2Proof/Machine/Operands.lean ====
section
/-! DEFINITION. How a command reads its operands, when an operand makes a request invalid, and where a mapped value
is narrowed (spec/30_encoding.md R102, R103; spec/60_exceptions.md R272, R273; spec/00_scope.md R7, R12). -/

namespace Sys2Proof.Machine

/-- `s32(i) = sext_32(ARG[i])` (R103). -/
def s32 (w : Word) : Int := w.toInt

/-- The integer A = zext_32(ARG[0]) of an hz operand, hz = A / 65536 (R103, R136). -/
def hzA (w : Word) : Nat := w.toNat

/-- `v[31:0]` of an integer: a RESULT register takes its two's complement (R11, R13). -/
def toWord (v : Int) : Word := BitVec.ofInt 32 v

/-- `zext_32` of a byte (R142). -/
def byteWord (b : Byte) : Word := b.setWidth 32

/-- A channel operand names one of the 16 channels (R102). -/
def channelValid (ch : Int) : Bool := decide (0 ≤ ch) && decide (ch ≤ 15)

/-- The operand condition of code 5, DIV_ZERO (R272): hz = 0 for CALC_PRESCALE and SET_FREQ, inMin = inMax for
MAP_LINEAR, evaluated on the given operands (R273). -/
def divZeroOperands (i : Instr) (a : Operands) : Bool :=
  match i with
  | .calcPrescale _ => a.a0 == 0
  | .setFreq _ => a.a0 == 0
  | .mapLinear _ => a.a1 == a.a2
  | .nop _ | .init _ | .setChannel _ | .clampTick _ | .mapMotor _ | .servo _ | .servoRange _ | .motor _
  | .setFreqPreset _ | .ultrasonic _ | .freqDetect _ => false

/-- The rejection code of a word that is no command (R272): 2 RESERVED_BITS, 3 ILLEGAL_OP, 4 BAD_SELECTOR. A CMD write
always has its 32 bits, so `truncated` stands for no request and has code 0, which R272 gives to no rejection. -/
def rejectionCode : DecodeError → BitVec 4
  | .truncated => 0
  | .reservedBits => 2
  | .illegalOp => 3
  | .badSelector => 4

/-- Code 1, CMD_WHILE_BUSY (R272). -/
def codeCmdWhileBusy : BitVec 4 := 1

/-- Code 5, DIV_ZERO (R272). -/
def codeDivZero : BitVec 4 := 5

end Sys2Proof.Machine
end

