-- ==== Sys2Proof/Machine/Arith.lean ====
section
/-! DEFINITION. The block's exact arithmetic: the prescaler calculator, the tick clamper, the channel frame, the
mappers, the tables of the facade and the classifier. -/

namespace Sys2Proof.Machine

/-- `clamp(v, lo, hi) = min(max(v, lo), hi)` (spec/00_scope.md R12). -/
def clamp (v lo hi : Int) : Int := min (max v lo) hi

/-- `sat32` (R12). -/
def sat32 (v : Int) : Int := clamp v (-2147483648) 2147483647

/-- clampTick (spec/40_pwm_controller.md R135): the saturated tick and whether it changed. -/
def clampTick (v : Int) : Int × Bool :=
  let t := clamp v 0 tickMax
  (t, t != v)

/-- The result of calcPrescale (R132). -/
structure Prescale where
  raw : Int
  byte : Byte
  oor : Bool
  deriving DecidableEq, Repr

/-- calcPrescale (R132), for A ≥ 1: raw = round_half_up(400_000_000 / A) - 1, that is
(800_000_000 + A) div (2*A) - 1; byte = raw[7:0]; oor when raw lies outside 0..255 (R134). -/
def calcPrescale (A : Nat) : Prescale :=
  let raw : Int := ((2 * oscQuotient + A) / (2 * A) : Nat) - 1
  { raw := raw, byte := BitVec.ofInt 8 raw, oor := decide (raw < 0) || decide (255 < raw) }

/-- `on2[7:0]`: the low byte of a tick (R138). -/
def tickLow (t : Int) : Byte := BitVec.ofInt 8 t

/-- `on2[15:8]`: the high byte of a tick (R138, R75). -/
def tickHigh (t : Int) : Byte := BitVec.ofInt 8 (t / 256)

/-- BDATA of a channel frame (R138): {off2[15:8], off2[7:0], on2[15:8], on2[7:0]}. -/
def frame (on2 off2 : Int) : Word :=
  ((tickHigh off2 ++ tickLow off2) ++ tickHigh on2) ++ tickLow on2

/-- The external address of channel `ch`'s first LED-control register, 0x06 + 4*ch (R71, R138). -/
def channelReg (ch : Int) : Byte := BitVec.ofInt 8 ((regLed0 : Int) + 4 * ch)

/-- mapLinear (spec/41_motion_mappers.md R181), for inMin ≠ inMax: the exact rational
(x - inMin) * (outMax - outMin) / (inMax - inMin) + outMin, over the common denominator, truncated toward zero. -/
def mapLinear (x inMin inMax outMin outMax : Int) : Int :=
  ((x - inMin) * (outMax - outMin) + outMin * (inMax - inMin)).tdiv (inMax - inMin)

/-- mapMotorSpeed (R183): the saturated product and whether it changed. -/
def mapMotorSpeed (speed : Int) : Int × Bool :=
  let p := motorScale * speed
  let m := clamp p (-motorSat) motorSat
  (m, m != p)

/-- servoTick (spec/42_device_facade.md R200). -/
def servoTick (deg : Int) : Int := mapLinear deg servoDegMin servoDegMax servoMinTick servoMaxTick

/-- servoTickRange (R200). -/
def servoTickRange (deg lo hi : Int) : Int := mapLinear deg servoDegMin servoDegMax lo hi

/-- MOTOR_MAP (R203): the forward and the reverse channel of a port. -/
def motorMap : MotorPort → Int × Int
  | .p0 => (10, 11)
  | .p1 => (9, 8)
  | .p2 => (13, 12)
  | .p3 => (14, 15)

/-- A_p (R205): 50 Hz times the preset's multiplier, in UQ16.16. -/
def presetHz : Preset → Nat
  | .a => 0x002E0000
  | .b => 0x002F0000
  | .c => 0x00300000
  | .d => 0x00310000
  | .e => 0x00320000
  | .f => 0x00330000

/-- classify (spec/43_sensors.md R243): the descending cascade on a corrected count. -/
def classify (c : Int) : Int :=
  if 53 < c then 65
  else if 52 < c then 66
  else if 51 < c then 67
  else if 50 < c then 68
  else if 49 < c then 69
  else if 48 < c then 70
  else 88

/-- The distance in centimetres of an echo width (R233): W div 58. -/
def distanceCm (width : Int) : Int := width / (usPerCm : Int)

end Sys2Proof.Machine
end

