-- ==== Sys2Proof/Machine/Flags.lean ====
section
/-! DEFINITION. STATUS: its word, the write-1-to-clear rule, the flags the block sets, and the capture of a
rejection code (spec/10_state.md R37 to R40). -/

namespace Sys2Proof.Machine

/-- STATUS as HOST reads it (R37): bits 31:13 read 0. -/
def Status.word (st : Status) : Word :=
  0#19 ++ (BitVec.ofBool st.ovf ++ (BitVec.ofBool st.clamped ++ (BitVec.ofBool st.noEcho ++
    (BitVec.ofBool st.chIgn ++ (BitVec.ofBool st.pscOor ++ (st.errcode ++ (BitVec.ofBool st.err ++
      (BitVec.ofBool st.done ++ (BitVec.ofBool st.ready ++ BitVec.ofBool st.busy)))))))))

/-- A HOST write of `v` to STATUS (R38): each W1C bit that is 1 in `v` is cleared, ERR takes ERRCODE with it; BUSY,
READY, ERRCODE and bits 31:13 ignore the write. -/
def Status.w1c (st : Status) (v : Word) : Status :=
  { st with
    done := st.done && !v.getLsbD 2
    err := st.err && !v.getLsbD 3
    errcode := if v.getLsbD 3 then 0 else st.errcode
    pscOor := st.pscOor && !v.getLsbD 8
    chIgn := st.chIgn && !v.getLsbD 9
    noEcho := st.noEcho && !v.getLsbD 10
    clamped := st.clamped && !v.getLsbD 11
    ovf := st.ovf && !v.getLsbD 12 }

/-- A rejection with code `k` (R40): the first rejection wins. -/
def Status.capture (st : Status) (k : BitVec 4) : Status :=
  if st.err then st else { st with err := true, errcode := k }

/-- Set PSC_OOR when a prescale is out of range (R134). -/
def State.raisePscOor (c : Bool) (s : State) : State :=
  { s with status := { s.status with pscOor := s.status.pscOor || c } }

/-- Set CH_IGN when a channel is ignored (R137). -/
def State.raiseChIgn (c : Bool) (s : State) : State :=
  { s with status := { s.status with chIgn := s.status.chIgn || c } }

/-- Set NO_ECHO when the echo timer times out (R232). -/
def State.raiseNoEcho (c : Bool) (s : State) : State :=
  { s with status := { s.status with noEcho := s.status.noEcho || c } }

/-- Set CLAMPED when the tick clamper or the motor saturation changed a value (R135, R183). -/
def State.raiseClamped (c : Bool) (s : State) : State :=
  { s with status := { s.status with clamped := s.status.clamped || c } }

/-- Set OVF when MAP_LINEAR saturated (R180). -/
def State.raiseOvf (c : Bool) (s : State) : State :=
  { s with status := { s.status with ovf := s.status.ovf || c } }

/-- Refuse a command request with code `k` (`raise Reject(code)`, R272): ERR and ERRCODE as R40 says, and nothing
else. This is the block's only way of raising an error; it saves nothing and redirects nothing (R277), and HOST
returns from it by clearing ERR (R278, `Status.w1c`). -/
def State.reject (k : BitVec 4) (s : State) : State :=
  { s with status := s.status.capture k }

end Sys2Proof.Machine
end

