-- ==== Sys2Proof/Machine/Ops.lean ====
section
/-! DEFINITION. The shared operations: the cycle's inputs, the record of external writes, the bus port and its
handshake, the sequencer, the host window, and the acceptance or rejection of a command request. -/

namespace Sys2Proof.Machine

/-! ## The cycle -/

/-- The inputs of the current cycle: the first of the coming inputs, or a free draw when none is named
(spec/00_scope.md R9, R10; log entry 2). -/
def State.input (s : State) : CycleInput :=
  match s.env with
  | x :: _ => x
  | [] => Config.freeInput s.cycle

/-- The end of a cycle: the next cycle has the next inputs. -/
def State.tick (s : State) : State :=
  { s with env := s.env.tail, cycle := s.cycle + 1 }

/-- A cycle with RST = 1 (spec/70_reset_and_hazards.md R300): every piece of state takes its reset value. What is not
the block's state stays: the build's masks, the coming inputs and the number of the cycle. -/
def State.onReset (s : State) : State :=
  { State.reset with masks := s.masks, env := s.env, cycle := s.cycle }

/-! ## The record of external writes -/

/-- What was last written to an external register, if anything was (log entry 4). -/
def Memory.read : Memory → Nat → Option Byte
  | [], _ => none
  | (a, b) :: rest, x => if a = x then some b else Memory.read rest x

/-- Record a byte at an address, keeping the addresses strictly rising. -/
def Memory.write : Memory → Nat → Byte → Memory
  | [], x, v => [(x, v)]
  | (a, b) :: rest, x, v =>
    if x < a then (x, v) :: (a, b) :: rest
    else if x = a then (a, v) :: rest
    else (a, b) :: Memory.write rest x v

/-- The canonical form: addresses strictly rising (each address has at most one entry). -/
def Memory.wf : Memory → Bool
  | [] => true
  | [_] => true
  | (a, _) :: (b, v) :: rest => decide (a < b) && Memory.wf ((b, v) :: rest)

/-- Byte `b_k` of BDATA (spec/10_state.md R44). -/
def busByte (data : Word) (k : Nat) : Byte := data.extractLsb' (8 * k) 8

/-- How many external registers a request writes (R44, R77). -/
def BusKind.bytes : BusKind → Nat
  | .write1 => 1
  | .write4 => 4
  | .read1 => 0

/-- Record `n` bytes of `data` at the addresses from `r` on, lowest first (spec/00_scope.md R14). -/
def Memory.writeBytes (m : Memory) (r : Nat) (data : Word) : Nat → Memory
  | 0 => m
  | n + 1 => (Memory.writeBytes m r data n).write (r + n) (busByte data n)

/-! ## The bus port -/

/-- BKIND as driven (R44). -/
def BusKind.code : BusKind → BitVec 2
  | .write1 => 0
  | .write4 => 1
  | .read1 => 2

/-- Issue a request and wait for it at position `p` (R45: BREQ, BKIND, BREG and BDATA from the end of the cycle). -/
def State.issue (kind : BusKind) (r : Byte) (data : Word) (p : SeqPos) (s : State) : State :=
  { s with bus := { breq := true, kind := kind, reg := r, data := data }, seq := .run p }

/-- `BusWrite1(r, b)` (spec/00_scope.md R14; R44: BDATA[31:8] = 0). -/
def State.busWrite1 (r b : Byte) (p : SeqPos) (s : State) : State :=
  s.issue .write1 r (b.setWidth 32) p

/-- `BusWrite4(r, [b0, b1, b2, b3])` with the four bytes as BDATA (R14). -/
def State.busWrite4 (r : Byte) (data : Word) (p : SeqPos) (s : State) : State :=
  s.issue .write4 r data p

/-- `BusRead1(r)` (R14). BDATA is free while it waits (log entry 3). -/
def State.busRead1 (r : Byte) (p : SeqPos) (s : State) : State :=
  s.issue .read1 r (Config.readBdata s.cycle) p

/-- The acknowledging cycle of a request (R45): BREQ falls, a READ1's byte goes to OLD (spec/40_pwm_controller.md R133),
the PRESCALE write of setFreqSeq updates LAST_PSC (R41), and the bytes written are recorded. -/
def State.busAck (s : State) : State :=
  { s with
    bus := { s.bus with breq := false }
    unitP := { s.unitP with old := if s.bus.kind = .read1 then s.input.brdata else s.unitP.old }
    lastPsc :=
      if s.seq = .run (.freq .prescale) then { valid := true, psc := s.unitP.pscb } else s.lastPsc
    chip := s.chip.writeBytes s.bus.reg.toNat s.bus.data s.bus.kind.bytes }

/-- A cycle with a request outstanding: the acknowledgement, or waiting on (R45). -/
def State.busCycle (s : State) : State :=
  if s.input.back then s.busAck else s

/-! ## The sequencer -/

/-- Move to a position of the running command's pseudocode (R33). -/
def State.goTo (p : SeqPos) (s : State) : State := { s with seq := .run p }

/-- `complete` (spec/40_pwm_controller.md R130): BUSY <- 0, DONE <- 1 and SEQ_STATE <- IDLE. -/
def State.complete (s : State) : State :=
  { s with seq := .idle, status := { s.status with busy := false, done := true } }

/-- `RESULT0 <- v` (R13). -/
def State.setResult0 (v : Word) (s : State) : State := { s with result0 := v }

/-- `RESULT1 <- v` (R13). -/
def State.setResult1 (v : Word) (s : State) : State := { s with result1 := v }

/-- SEQ's cycle of a running command: the handshake of an outstanding request, else the pseudocode from the
position SEQ_STATE names (R130, R45). -/
def running (s : State) (body : SeqPos → Result) : Result :=
  match s.seq with
  | .idle => .fault .notRunning
  | .run p => if s.bus.breq then .next s.busCycle else body p

/-! ## The host window -/

/-- LAST_PSC as HOST reads it (R41). -/
def LastPsc.word (l : LastPsc) : Word := (0#23 ++ BitVec.ofBool l.valid) ++ l.psc

/-- The word of the window an offset reaches: bits [1:0] are ignored (spec/20_memory.md R72, R76). -/
def wordIndex (off : BitVec 6) : BitVec 4 := off.extractLsb' 2 4

/-- `MemRead(off, 4)` (R35, R42): a read has no side effect. -/
def State.hostRead (s : State) (off : BitVec 6) : Word :=
  let k := wordIndex off
  if k = 0x0 then 0
  else if k = 0x1 then s.status.word
  else if k = 0x2 then s.arg.a0
  else if k = 0x3 then s.arg.a1
  else if k = 0x4 then s.arg.a2
  else if k = 0x5 then s.arg.a3
  else if k = 0x6 then s.arg.a4
  else if k = 0x7 then s.result0
  else if k = 0x8 then s.result1
  else if k = 0x9 then s.lastPsc.word
  else 0

/-- Byte lane `k mod 4` of the host window at byte address `k` (R73: little-endian). -/
def State.hostByte (s : State) (off : BitVec 6) : Byte :=
  (s.hostRead off).extractLsb' (8 * (off.toNat % 4)) 8

/-- Accept a command word (R34, R36): BUSY, the latch, the snapshot, and SEQ_STATE at the command's first step. -/
def State.accept (w : Word) (s : State) : State :=
  { s with
    status := { s.status with busy := true }
    opL := opField w
    selL := selField w
    snap := s.arg
    seq := .run .start }

/-- The validation of a command request (spec/60_exceptions.md R273): the code of the first condition that holds, or
none if the request is accepted. -/
def State.requestCode (s : State) (w : Word) : Option (BitVec 4) :=
  if s.status.busy then some codeCmdWhileBusy
  else
    match decodeWord w with
    | .error e => some (rejectionCode e)
    | .ok i => if divZeroOperands i s.arg then some codeDivZero else none

/-- A HOST write of `w` to CMD (R36), and whether it was accepted. -/
def State.request (w : Word) (s : State) : State × Bool :=
  match s.requestCode w with
  | some k => (s.reject k, false)
  | none => (s.accept w, true)

/-- `MemWrite(off, 4, v)` (R35 to R42), and whether it was an accepted command request. Read-only registers and
reserved offsets ignore it. -/
def State.hostWrite (off : BitVec 6) (v : Word) (s : State) : State × Bool :=
  let k := wordIndex off
  if k = 0x0 then s.request v
  else if k = 0x1 then ({ s with status := s.status.w1c v }, false)
  else if k = 0x2 then ({ s with arg := { s.arg with a0 := v } }, false)
  else if k = 0x3 then ({ s with arg := { s.arg with a1 := v } }, false)
  else if k = 0x4 then ({ s with arg := { s.arg with a2 := v } }, false)
  else if k = 0x5 then ({ s with arg := { s.arg with a3 := v } }, false)
  else if k = 0x6 then ({ s with arg := { s.arg with a4 := v } }, false)
  else (s, false)

/-- The HOST access of a cycle, before SEQ's step (spec/00_scope.md R9), and whether it was an accepted command. A read
returns the register's value at the end of the cycle before (R72). -/
def State.hostAccess (s : State) : Option HostAccess → State × Bool
  | none => ({ s with rdata := none }, false)
  | some (.read off) => ({ s with rdata := some (s.hostRead off) }, false)
  | some (.write off v) => { s with rdata := none }.hostWrite off v

/-- The command in the latch: the pseudocode's OP and SEL read OP_L and SEL_L (R34). -/
def State.latched (s : State) : Except DecodeError Instr := decodeFields s.opL s.selL

/-- Operands with which the latched command can run: those given, but for the operand that code 5 would turn away,
which is moved off the forbidden value (harness only, log entry 6). -/
def runnableOperands (i : Instr) (a : Operands) : Operands :=
  if divZeroOperands i a then
    match i with
    | .mapLinear _ => { a with a2 := a.a1 + 1 }
    | _ => { a with a0 := 1 }
  else a

/-- A cycle in which the environment does nothing. -/
def quietInput : CycleInput :=
  { rst := false, echoIn := false, freqIn := false, back := false, brdata := 0, host := none }

/-- The state whose next cycle is the first SEQ cycle of command word `w`: as after its acceptance, in a cycle without
RST and HOST access. A word that is no command is placed as a HOST write of CMD instead (harness only, log entry 6). -/
def State.placeCommand (w : Word) (s : State) : State :=
  match decodeWord w with
  | .ok i =>
    { s with
      status := { s.status with busy := true }
      opL := opField w
      selL := selField w
      snap := runnableOperands i s.arg
      seq := .run .start
      bus := { s.bus with breq := false }
      unitP := { s.unitP with initpend := false }
      env := quietInput :: s.env }
  | .error _ => { s with env := { quietInput with host := some (.write 0 w) } :: s.env }

end Sys2Proof.Machine
end

