-- ==== Sys2Proof/Machine/Procedures.lean ====
section
/-! DEFINITION. The procedures the chip commands share (spec/40_pwm_controller.md R131, R133, R137). A procedure that
may return in the same cycle takes what the pseudocode does after it as its last argument. -/

namespace Sys2Proof.Machine

/-- The cycle that calls setFreqSeq(A) (R133): PSCB, PSC_OOR, and the MODE1 read is issued. -/
def State.freqStart (A : Nat) (s : State) : State :=
  let s1 : State := { s with unitP := { s.unitP with pscb := (calcPrescale A).byte } }
  (s1.raisePscOor (calcPrescale A).oor).busRead1 regMode1 (.freq .read)

/-- MODE1 with the sleep bit: (OLD & MODE1_SLEEP_AND) | MODE1_SLEEP_OR (R133). -/
def State.sleepByte (s : State) : Byte := (s.unitP.old &&& s.masks.sleepAnd) ||| s.masks.sleepOr

/-- MODE1 with the restart bit: OLD | MODE1_RESTART_OR (R133). -/
def State.restartByte (s : State) : Byte := s.unitP.old ||| s.masks.restartOr

/-- One cycle of Wait(SETTLE_US): SETTLE counts the cycles that remain; when it runs out the restart write is issued in
that cycle (R133, R130). -/
def State.settleCycle (s : State) : State :=
  if s.unitP.settle.toNat ≤ 1 then
    { s with unitP := { s.unitP with settle := 0 } }.busWrite1 regMode1 s.restartByte (.freq .restart)
  else { s with unitP := { s.unitP with settle := s.unitP.settle - 1 } }

/-- What setFreqSeq does when it resumes at a position before its last one, with no request outstanding (R133): the sleep
write after the read, the PRESCALE write after it, the restore write after that, then the wait, then the restart write. -/
def State.freqMove (p : FreqPos) (s : State) : State :=
  match p with
  | .read => s.busWrite1 regMode1 s.sleepByte (.freq .sleep)
  | .sleep => s.busWrite1 regPrescale s.unitP.pscb (.freq .prescale)
  | .prescale => s.busWrite1 regMode1 s.unitP.old (.freq .restore)
  | .restore => { s with unitP := { s.unitP with settle := BitVec.ofNat 13 settleUs } }.goTo (.freq .settle)
  | .settle => s.settleCycle
  | .restart => s

/-- setFreqSeq resumed at a position (R133): its next move, or, after the restart write, what follows its return. -/
def freqResume (p : FreqPos) (s : State) (after : State → Result) : Result :=
  if p = .restart then after s else .next (s.freqMove p)

/-- ensureReady's first request (R131): INITPEND <- 1 and the MODE1 = 0x00 write. -/
def State.initIssue (s : State) : State :=
  { s with unitP := { s.unitP with initpend := true } }.busWrite1 regMode1 initMode1 .initWake

/-- ensureReady called (R131): it returns at once if READY, else its sequence begins. -/
def ensureReady (s : State) (after : State → Result) : Result :=
  if s.status.ready then after s else .next s.initIssue

/-- The pure lines after ensureReady's setFreqSeq (R131): READY <- 1, INITPEND <- 0. -/
def State.initDone (s : State) : State :=
  { s with status := { s.status with ready := true }, unitP := { s.unitP with initpend := false } }

/-- The cycles of a command that begins with ensureReady (R131): its start, the positions of ensureReady's own sequence
(INITPEND = 1 inside setFreqSeq), the command's `body` when ensureReady returns, and the command's own positions. -/
def chipCommand (p : SeqPos) (s : State) (body : State → Result) (own : SeqPos → Result) : Result :=
  match p with
  | .start => ensureReady s body
  | .initWake => .next (s.freqStart initHz)
  | .freq f => if s.unitP.initpend then freqResume f s (fun t => body t.initDone) else own p
  | _ => own p

/-- emitChannel (R137): CLAMPED if a tick was clamped; an invalid channel sets CH_IGN and returns at once; else the
frame is written with one WRITE4 (R138), waited for at position `p`. -/
def emitChannel (ch on off : Int) (p : SeqPos) (s : State) (after : State → Result) : Result :=
  let s1 := s.raiseClamped ((clampTick on).2 || (clampTick off).2)
  if channelValid ch then
    .next (s1.busWrite4 (channelReg ch) (frame (clampTick on).1 (clampTick off).1) p)
  else after (s1.raiseChIgn true)

end Sys2Proof.Machine
end

