-- ==== Sys2Proof/Machine/Pwm.lean ====
section
/-! DEFINITION. SEQ's cycle of NOP, INIT, CALC_PRESCALE, SET_FREQ, SET_CHANNEL and CLAMP_TICK
(spec/40_pwm_controller.md R140 to R145). -/

namespace Sys2Proof.Machine

/-- NOP (R140). -/
def execNop (s : State) : Result :=
  running s fun p =>
    match p with
    | .start => .next s.complete
    | _ => .fault .offPseudocode

/-- INIT (R141). -/
def execInit (s : State) : Result :=
  running s fun p =>
    chipCommand p s (fun t => .next t.complete) (fun _ => .fault .offPseudocode)

/-- The pure lines of CALC_PRESCALE (R142). -/
def State.calcPrescaleDone (s : State) : State :=
  let r := calcPrescale (hzA s.snap.a0)
  (((s.raisePscOor r.oor).setResult0 (toWord r.raw)).setResult1 (byteWord r.byte)).complete

/-- CALC_PRESCALE (R142). -/
def execCalcPrescale (s : State) : Result :=
  running s fun p =>
    match p with
    | .start => if s.snap.a0 = 0 then .fault .divZero else .next s.calcPrescaleDone
    | _ => .fault .offPseudocode

/-- The end of a frequency command (R143, R206): RESULT0 <- raw, RESULT1 <- the byte of setFreqSeq. -/
def State.setFreqDone (A : Nat) (s : State) : State :=
  ((s.setResult0 (toWord (calcPrescale A).raw)).setResult1 (byteWord s.unitP.pscb)).complete

/-- SET_FREQ (R143). -/
def execSetFreq (s : State) : Result :=
  running s fun p =>
    if s.snap.a0 = 0 then .fault .divZero
    else
      chipCommand p s (fun t => .next (t.freqStart (hzA t.snap.a0))) fun q =>
        match q with
        | .freq f => freqResume f s (fun t => .next (t.setFreqDone (hzA t.snap.a0)))
        | _ => .fault .offPseudocode

/-- The end of SET_CHANNEL (R144): the clamped ticks. -/
def State.setChannelDone (s : State) : State :=
  ((s.setResult0 (toWord (clampTick (s32 s.snap.a0)).1)).setResult1
    (toWord (clampTick (s32 s.snap.a1)).1)).complete

/-- SET_CHANNEL's emitChannel and what follows it (R144). -/
def setChannelBody (ch : Int) (s : State) : Result :=
  emitChannel ch (s32 s.snap.a0) (s32 s.snap.a1) .chanFirst s (fun t => .next t.setChannelDone)

/-- SET_CHANNEL (R144): the channel is checked before ensureReady. -/
def execSetChannel (ch : Int) (s : State) : Result :=
  running s fun p =>
    if channelValid ch then
      chipCommand p s (setChannelBody ch) fun q =>
        match q with
        | .chanFirst => .next s.setChannelDone
        | _ => .fault .offPseudocode
    else
      match p with
      | .start => setChannelBody ch s
      | _ => .fault .offPseudocode

/-- The pure lines of CLAMP_TICK (R145). -/
def State.clampTickDone (s : State) : State :=
  let r := clampTick (s32 s.snap.a0)
  ((s.raiseClamped r.2).setResult0 (toWord r.1)).complete

/-- CLAMP_TICK (R145). -/
def execClampTick (s : State) : Result :=
  running s fun p =>
    match p with
    | .start => .next s.clampTickDone
    | _ => .fault .offPseudocode

end Sys2Proof.Machine
end

