-- ==== Sys2Proof/Machine/Facade.lean ====
section
/-! DEFINITION. SEQ's cycle of SERVO, SERVO_RANGE, MOTOR and SET_FREQ_PRESET (spec/42_device_facade.md R201, R202,
R204, R206). -/

namespace Sys2Proof.Machine

/-- The end of SERVO and SERVO_RANGE (R201, R202): RESULT0 <- the clamped off-tick. -/
def State.servoDone (off : Int) (s : State) : State :=
  (s.setResult0 (toWord (clampTick off).1)).complete

/-- The cycles of a servo command that writes off-tick `off` to channel `ch` (R201, R202). -/
def servoCommand (ch off : Int) (s : State) : Result :=
  running s fun p =>
    chipCommand p s (fun t => emitChannel ch 0 off .chanFirst t (fun u => .next (u.servoDone off))) fun q =>
      match q with
      | .chanFirst => if channelValid ch then .next (s.servoDone off) else .fault .offPseudocode
      | _ => .fault .offPseudocode

/-- SERVO (R201). -/
def execServo (ch : Int) (s : State) : Result :=
  servoCommand ch (servoTick (s32 s.snap.a0)) s

/-- SERVO_RANGE (R202). -/
def execServoRange (ch : Int) (s : State) : Result :=
  servoCommand ch (servoTickRange (s32 s.snap.a0) (s32 s.snap.a1) (s32 s.snap.a2)) s

/-- The two writes of MOTOR in order (R204): the magnitude's channel and off-tick, then the other channel with 0. -/
def motorWrites (port : MotorPort) (m : Int) : (Int × Int) × (Int × Int) :=
  if 0 ≤ m then (((motorMap port).1, m), ((motorMap port).2, 0))
  else (((motorMap port).2, -m), ((motorMap port).1, 0))

/-- The end of MOTOR (R204). -/
def State.motorDone (s : State) : State :=
  (s.setResult0 (toWord (mapMotorSpeed (s32 s.snap.a0)).1)).complete

/-- MOTOR's second emitChannel and its end (R204). -/
def motorSecond (port : MotorPort) (s : State) : Result :=
  let w := (motorWrites port (mapMotorSpeed (s32 s.snap.a0)).1).2
  emitChannel w.1 0 w.2 .chanSecond s (fun t => .next t.motorDone)

/-- MOTOR after ensureReady (R204): CLAMPED if the speed saturated, then the first emitChannel. -/
def motorFirst (port : MotorPort) (s : State) : Result :=
  let r := mapMotorSpeed (s32 s.snap.a0)
  let w := (motorWrites port r.1).1
  emitChannel w.1 0 w.2 .chanFirst (s.raiseClamped r.2) (motorSecond port)

/-- MOTOR (R204). -/
def execMotor (port : MotorPort) (s : State) : Result :=
  running s fun p =>
    chipCommand p s (motorFirst port) fun q =>
      match q with
      | .chanFirst => motorSecond port s
      | .chanSecond => .next s.motorDone
      | _ => .fault .offPseudocode

/-- SET_FREQ_PRESET (R206): after ensureReady MODE1 is written 0x00, then setFreqSeq runs with the preset's hz. -/
def execSetFreqPreset (preset : Preset) (s : State) : Result :=
  running s fun p =>
    chipCommand p s (fun t => .next (t.busWrite1 regMode1 0x00 .presetMode1)) fun q =>
      match q with
      | .presetMode1 => .next (s.freqStart (presetHz preset))
      | .freq f => freqResume f s (fun t => .next (t.setFreqDone (presetHz preset)))
      | _ => .fault .offPseudocode

end Sys2Proof.Machine
end

