-- ==== Sys2Proof/Machine/Mappers.lean ====
section
/-! DEFINITION. SEQ's cycle of MAP_LINEAR and MAP_MOTOR (spec/41_motion_mappers.md R180, R182). -/

namespace Sys2Proof.Machine

/-- mapLinear of the snapshot's five operands (R180). -/
def mapLinearOf (a : Operands) : Int :=
  mapLinear (s32 a.a0) (s32 a.a1) (s32 a.a2) (s32 a.a3) (s32 a.a4)

/-- The pure lines of MAP_LINEAR (R180). -/
def State.mapLinearDone (s : State) : State :=
  let r := mapLinearOf s.snap
  ((s.raiseOvf (sat32 r != r)).setResult0 (toWord (sat32 r))).complete

/-- MAP_LINEAR (R180). -/
def execMapLinear (s : State) : Result :=
  running s fun p =>
    match p with
    | .start => if s.snap.a1 = s.snap.a2 then .fault .divZero else .next s.mapLinearDone
    | _ => .fault .offPseudocode

/-- The pure lines of MAP_MOTOR (R182). -/
def State.mapMotorDone (s : State) : State :=
  let r := mapMotorSpeed (s32 s.snap.a0)
  ((s.raiseClamped r.2).setResult0 (toWord r.1)).complete

/-- MAP_MOTOR (R182). -/
def execMapMotor (s : State) : Result :=
  running s fun p =>
    match p with
    | .start => .next s.mapMotorDone
    | _ => .fault .offPseudocode

end Sys2Proof.Machine
end

