-- ==== Sys2Proof/Machine/Sensors.lean ====
section
/-! DEFINITION. SEQ's cycle of ULTRASONIC and FREQ_DETECT (spec/43_sensors.md R230 to R245). -/

namespace Sys2Proof.Machine

/-! ## Unit U -/

/-- `Drive(TRIG_OUT, v)` (spec/00_scope.md R15). -/
def State.driveTrig (v : Bool) (s : State) : State := { s with trigOut := v }

/-- UPH <- ph (R49). -/
def State.setUph (ph : EchoPhase) (s : State) : State := { s with unitU := { s.unitU with uph := ph } }

/-- The end of ULTRASONIC (R230): RESULT0 <- W div 58, RESULT1 <- W. -/
def State.ultrasonicDone (width : Int) (s : State) : State :=
  ((s.setResult0 (toWord (distanceCm width))).setResult1 (toWord width)).complete

/-- The deadline test that ends an iteration of captureEcho (R232): a timeout, or one more iteration in the next
cycle. -/
def State.echoDeadline (s : State) : State :=
  if s.unitU.ut = BitVec.ofNat 16 echoTimeoutUs then (s.raiseNoEcho true).ultrasonicDone 0
  else { s with unitU := { s.unitU with ut := s.unitU.ut + 1 } }.goTo .echo

/-- One iteration of captureEcho's loop (R232). -/
def State.echoCycle (s : State) : State :=
  if s.unitU.uph = .waitHigh ∧ s.input.echoIn = true then
    { s with unitU := { s.unitU with ua := s.unitU.ut, uph := .high } }.echoDeadline
  else if s.unitU.uph = .high ∧ s.input.echoIn = false then
    s.ultrasonicDone ((s.unitU.ut.toNat : Int) - (s.unitU.ua.toNat : Int))
  else s.echoDeadline

/-- captureEcho's first line and its first iteration, in cycle t0 (R232): UT <- 0; UPH <- WAIT_HIGH. -/
def State.echoStart (s : State) : State :=
  { s with unitU := { s.unitU with ut := 0, uph := .waitHigh } }.echoCycle

/-- ULTRASONIC (R230): the trigger pulse (R231), then captureEcho. -/
def execUltrasonic (s : State) : Result :=
  running s fun p =>
    match p with
    | .start => .next (((s.driveTrig false).setUph .trigLo).goTo (.trigLow (trigLowUs - 1)))
    | .trigLow 0 => .next (((s.driveTrig true).setUph .trigHi).goTo (.trigHigh (trigHighUs - 1)))
    | .trigLow (k + 1) => .next (s.goTo (.trigLow k))
    | .trigHigh 0 => .next ((s.driveTrig false).goTo .trigFall)
    | .trigHigh (k + 1) => .next (s.goTo (.trigHigh k))
    | .trigFall => .next s.echoStart
    | .echo => .next s.echoCycle
    | _ => .fault .offPseudocode

/-! ## Unit F -/

/-- FK <- 0; EC <- 0; PREV <- NONE, in cycle c0, where the first Wait(FREQ_SAMPLE_US) begins (R240, R245). -/
def State.freqLoopStart (s : State) : State :=
  { s with unitF := { fk := 0, fph := 0, ec := 0, prev := none } }.goTo .sample

/-- windowEnd (R241). -/
def State.windowEnd (s : State) : State :=
  let corr := (s.unitF.ec.toNat : Int) - freqCorr
  { (s.setResult0 (toWord (classify corr))).setResult1 (toWord corr) with
    unitF := { s.unitF with ec := 0 } }

/-- A sampling cycle up to the window test (R240, R242): FK, the edge count and PREV; the next Wait begins. -/
def State.countSample (s : State) : State :=
  let v := s.input.freqIn
  { s with
    unitF :=
      { fk := s.unitF.fk + 1
        fph := 0
        ec := if s.unitF.prev = some false ∧ v = true then s.unitF.ec + 1 else s.unitF.ec
        prev := some v } }

/-- What follows the count of a sample (R240): windowEnd at a window boundary, and `complete` after the last
sample. -/
def State.afterSample (s : State) : State :=
  let s1 := if s.unitF.fk.toNat % freqWindow = 0 then s.windowEnd else s
  if freqIter ≤ s.unitF.fk.toNat then s1.complete else s1

/-- One cycle of FREQ_DETECT's loop (R245): FPH counts the cycles since the last sample; the 1000th takes a sample. -/
def State.sampleCycle (s : State) : State :=
  if s.unitF.fph.toNat + 1 < freqSampleUs then
    { s with unitF := { s.unitF with fph := s.unitF.fph + 1 } }
  else s.countSample.afterSample

/-- FREQ_DETECT's channel drive and what follows it (R240, R244). -/
def freqDetectBody (ch : Int) (s : State) : Result :=
  emitChannel ch freqDriveOn freqDriveOff .chanFirst s (fun t => .next t.freqLoopStart)

/-- FREQ_DETECT (R240): ensureReady only for a valid channel. -/
def execFreqDetect (ch : Int) (s : State) : Result :=
  running s fun p =>
    match p with
    | .sample => .next s.sampleCycle
    | _ =>
      if channelValid ch then
        chipCommand p s (freqDetectBody ch) fun q =>
          match q with
          | .chanFirst => .next s.freqLoopStart
          | _ => .fault .offPseudocode
      else
        match p with
        | .start => freqDetectBody ch s
        | _ => .fault .offPseudocode

end Sys2Proof.Machine
end

