-- ==== Sys2Proof/Machine/Dispatch.lean ====
section
/-! DEFINITION. What SEQ does in its cycle for each command (spec/40_pwm_controller.md R130): one arm per
constructor. -/

namespace Sys2Proof.Machine

def exec (i : Instr) (s : State) : Host.Outcome State Fault Refusal :=
  match i with
  | .nop _ => Sys2Proof.Machine.execNop s
  | .init _ => Sys2Proof.Machine.execInit s
  | .calcPrescale _ => Sys2Proof.Machine.execCalcPrescale s
  | .setFreq _ => Sys2Proof.Machine.execSetFreq s
  | .setChannel ch => Sys2Proof.Machine.execSetChannel ch s
  | .clampTick _ => Sys2Proof.Machine.execClampTick s
  | .mapLinear _ => Sys2Proof.Machine.execMapLinear s
  | .mapMotor _ => Sys2Proof.Machine.execMapMotor s
  | .servo ch => Sys2Proof.Machine.execServo ch s
  | .servoRange ch => Sys2Proof.Machine.execServoRange ch s
  | .motor port => Sys2Proof.Machine.execMotor port s
  | .setFreqPreset preset => Sys2Proof.Machine.execSetFreqPreset preset s
  | .ultrasonic _ => Sys2Proof.Machine.execUltrasonic s
  | .freqDetect ch => Sys2Proof.Machine.execFreqDetect ch s

end Sys2Proof.Machine
end

