-- ==== Sys2Proof/Machine/Step.lean ====
section
/-! DEFINITION. One cycle of the block (spec/00_scope.md R9), and how the host pipeline places a command for the next
cycle. -/

namespace Sys2Proof.Machine

/-- The end of a cycle whose SEQ step gave an outcome. -/
def endCycle : Result → Result
  | .next s => .next s.tick
  | .fault r => .fault r
  | .refused r => .refused r

/-- SEQ's step of a cycle in which no command was accepted (R9): nothing while IDLE, else the latched command's cycle. -/
def seqStep (s : State) : Result :=
  match s.seq with
  | .idle => .next s
  | .run _ =>
    match s.latched with
    | .ok i => exec i s
    | .error _ => .fault .badLatch

/-- One cycle (R9): RST overrides everything; else the HOST access, and then SEQ's step unless a command was accepted. -/
def step (s : State) : Host.Outcome State Fault Refusal :=
  if s.input.rst then .next s.onReset.tick
  else
    match s.hostAccess s.input.host with
    | (t, true) => .next t.tick
    | (t, false) => endCycle (seqStep t)

/-- The command word of the host pipeline's table bits, placed so that the very next step is its first SEQ cycle
(log entry 6). -/
def State.withFetchWord (s : State) (nbits w : Nat) : State :=
  s.placeCommand (BitVec.ofNat 32 (w % 2 ^ nbits))

end Sys2Proof.Machine
end

