-- ==== Sys2Proof/Safety.lean ====
section
/-! DEFINITION. What a state reached from reset looks like (`Inv`), what a safe cycle is (`Safe`), and the words in which
the statements speak of cycles, runs and inputs. -/

namespace Sys2Proof.Machine

/-! ## The invariant -/

/-- The commands that call ensureReady (spec/40_pwm_controller.md R131). -/
def usesInit : Instr → Bool
  | .nop _ => false
  | .init _ => true
  | .calcPrescale _ => false
  | .setFreq _ => true
  | .setChannel ch => channelValid ch
  | .clampTick _ => false
  | .mapLinear _ => false
  | .mapMotor _ => false
  | .servo _ => true
  | .servoRange _ => true
  | .motor _ => true
  | .setFreqPreset _ => true
  | .ultrasonic _ => false
  | .freqDetect ch => channelValid ch

/-- The commands that run setFreqSeq for themselves (R143; spec/42_device_facade.md R206). -/
def setsFreq : Instr → Bool
  | .setFreq _ => true
  | .setFreqPreset _ => true
  | .nop _ | .init _ | .calcPrescale _ | .setChannel _ | .clampTick _ | .mapLinear _ | .mapMotor _ | .servo _
  | .servoRange _ | .motor _ | .ultrasonic _ | .freqDetect _ => false

/-- The commands that write a first channel frame (R137). -/
def writesChannel : Instr → Bool
  | .setChannel ch => channelValid ch
  | .servo ch => channelValid ch
  | .servoRange ch => channelValid ch
  | .motor _ => true
  | .freqDetect ch => channelValid ch
  | .nop _ | .init _ | .calcPrescale _ | .setFreq _ | .clampTick _ | .mapLinear _ | .mapMotor _
  | .setFreqPreset _ | .ultrasonic _ => false

/-- The commands without bus requests, waits or samples: they complete in their first SEQ cycle (R130). -/
def isPure : Instr → Bool
  | .nop _ => true
  | .calcPrescale _ => true
  | .clampTick _ => true
  | .mapLinear _ => true
  | .mapMotor _ => true
  | .init _ | .setFreq _ | .setChannel _ | .servo _ | .servoRange _ | .motor _ | .setFreqPreset _ | .ultrasonic _
  | .freqDetect _ => false

/-- `i` is MOTOR. -/
def isMotor (i : Instr) : Bool :=
  match i with
  | .motor _ => true
  | _ => false

/-- `i` is SET_FREQ_PRESET. -/
def isPreset (i : Instr) : Bool :=
  match i with
  | .setFreqPreset _ => true
  | _ => false

/-- `i` is ULTRASONIC. -/
def isUltrasonic (i : Instr) : Bool :=
  match i with
  | .ultrasonic _ => true
  | _ => false

/-- `i` is FREQ_DETECT. -/
def isFreqDetect (i : Instr) : Bool :=
  match i with
  | .freqDetect _ => true
  | _ => false

/-- The positions of a command's pseudocode (spec/10_state.md R33). Inside setFreqSeq INITPEND tells ensureReady's own sequence
from the command's (R48). -/
def hasPosition (i : Instr) (pending : Bool) : SeqPos → Bool
  | .start => true
  | .initWake => usesInit i
  | .freq _ => if pending then usesInit i else setsFreq i
  | .presetMode1 => isPreset i
  | .chanFirst => writesChannel i
  | .chanSecond => isMotor i
  | .trigLow _ => isUltrasonic i
  | .trigHigh _ => isUltrasonic i
  | .trigFall => isUltrasonic i
  | .echo => isUltrasonic i
  | .sample => isFreqDetect i

/-- INITPEND and the Wait counts that go with a position: INITPEND is 1 exactly inside ensureReady's sequence (R48), and fewer
cycles of a Wait are left than it has (spec/43_sensors.md R231). -/
def positionFits (pending : Bool) : SeqPos → Bool
  | .initWake => pending
  | .freq _ => true
  | .trigLow k => !pending && decide (k < trigLowUs)
  | .trigHigh k => !pending && decide (k < trigHighUs)
  | .start | .presetMode1 | .chanFirst | .chanSecond | .trigFall | .echo | .sample => !pending

/-- A running command can stand at this position with this INITPEND. -/
def positionOk (i : Instr) (pending : Bool) (p : SeqPos) : Bool := hasPosition i pending p && positionFits pending p

/-- The positions at which a bus request can be outstanding (R45). -/
def SeqPos.isBus : SeqPos → Bool
  | .initWake => true
  | .freq .settle => false
  | .freq _ => true
  | .presetMode1 => true
  | .chanFirst => true
  | .chanSecond => true
  | .start | .trigLow _ | .trigHigh _ | .trigFall | .echo | .sample => false

/-- The positions after ensureReady has returned in a command that called it (R131). -/
def SeqPos.afterInit : SeqPos → Bool
  | .freq _ => true
  | .presetMode1 => true
  | .chanFirst => true
  | .chanSecond => true
  | .start | .initWake | .trigLow _ | .trigHigh _ | .trigFall | .echo | .sample => false

/-- The external addresses the block uses (spec/20_memory.md R71): MODE1, PRESCALE, and the 64 LED-control
addresses. -/
def externalAddress (a : Nat) : Prop := a = 0x00 ∨ a = 0xFE ∨ (0x06 ≤ a ∧ a ≤ 0x45)

/-- The request port holds a request the block makes (R71, R44, R75): WRITE1 to MODE1 or PRESCALE with BDATA[31:8] = 0,
WRITE4 at some 0x06 + 4c with both ticks in 0..4095, READ1 of MODE1. -/
def BusPort.inMap (b : BusPort) : Prop :=
  match b.kind with
  | .write1 => (b.reg = regMode1 ∨ b.reg = regPrescale) ∧ b.data.toNat < 256
  | .write4 =>
    (∃ c < 16, b.reg.toNat = 0x06 + 4 * c) ∧ (b.data.extractLsb' 0 16).toNat ≤ 4095 ∧
      (b.data.extractLsb' 16 16).toNat ≤ 4095
  | .read1 => b.reg = regMode1

/-- BUSY, ERR and ERRCODE agree with the sequencer and with each other (R33, R37, R40, spec/60_exceptions.md R272). -/
def StatusOk (s : State) : Prop :=
  (s.seq = .idle ↔ s.status.busy = false) ∧ (s.status.err = false ↔ s.status.errcode = 0) ∧
    s.status.errcode.toNat ≤ 5

/-- A running command is latched, was accepted with valid operands, and stands at a position of its own pseudocode; while
IDLE no request is outstanding and no ensureReady runs (R33, R34, R45, R48). -/
def RunOk (s : State) : Prop :=
  match s.seq with
  | .idle => s.bus.breq = false ∧ s.unitP.initpend = false
  | .run p =>
    ∃ i, s.latched = .ok i ∧ divZeroOperands i s.snap = false ∧ positionOk i s.unitP.initpend p = true ∧
      (s.bus.breq = true → p.isBus = true)

/-- The Initialization Flag invariant (R131): READY is 0 while ensureReady runs, and 1 at every position after it. -/
def ReadyOk (s : State) : Prop :=
  (s.unitP.initpend = true → s.status.ready = false) ∧
    ∀ p, s.seq = .run p → p.afterInit = true → s.unitP.initpend = false → s.status.ready = true

/-- Units U and F while they run (spec/43_sensors.md R231, R232, R242): TRIG_OUT is high only in the trigger pulse; the echo was
seen high before the current sample; fewer than FREQ_ITER samples are taken, and an edge needs a low sample before it. -/
def SensorsOk (s : State) : Prop :=
  (s.trigOut = true → ∃ k, s.seq = .run (.trigHigh k)) ∧
  (s.seq = .run .echo →
    s.unitU.uph = .waitHigh ∨ (s.unitU.uph = .high ∧ s.unitU.ua.toNat < s.unitU.ut.toNat)) ∧
  (s.seq = .run .sample →
    s.unitF.fk.toNat < freqIter ∧
    2 * s.unitF.ec.toNat ≤ s.unitF.fk.toNat % freqWindow + (if s.unitF.prev = some true then 1 else 0))

/-- The counters stay in the ranges of spec/10_state.md R48 to R50 and spec/43_sensors.md R242. -/
def CountersOk (s : State) : Prop :=
  s.unitP.settle.toNat ≤ settleUs ∧ s.unitU.ut.toNat ≤ echoTimeoutUs ∧ s.unitU.ua.toNat ≤ echoTimeoutUs ∧
    s.unitF.fk.toNat ≤ freqIter ∧ s.unitF.fph.toNat < freqSampleUs ∧ s.unitF.ec.toNat ≤ freqWindow / 2

/-- The block's requests stay in the map of R71, the record of what it wrote is in canonical form and in that map too, and
LAST_PSC holds no byte before its first PRESCALE write (spec/10_state.md R41). -/
def BusOk (s : State) : Prop :=
  s.bus.inMap ∧ Memory.wf s.chip = true ∧ (∀ c ∈ s.chip, externalAddress c.1) ∧
    (s.lastPsc.valid = false → s.lastPsc.psc = 0)

/-- The invariant of the block: it holds after reset and every cycle keeps it. -/
structure Inv (s : State) : Prop where
  status : StatusOk s
  run : RunOk s
  ready : ReadyOk s
  sensors : SensorsOk s
  counters : CountersOk s
  bus : BusOk s

/-- A safe cycle: it has a next state. The block never traps (R270). -/
def Safe (s : State) : Prop := ∃ t, step s = .next t

/-! ## The words of the statements -/

/-- SEQ's pseudocode goes on from position `p` in this cycle: no request is outstanding there. -/
def State.resumesAt (s : State) (p : SeqPos) : Prop := s.seq = .run p ∧ s.bus.breq = false

/-- ensureReady returns in this cycle, and `t` is what the command's body goes on with (R131): READY was 1 at the start, or
the restart write of its own setFreqSeq was acknowledged, READY <- 1 and INITPEND <- 0. -/
def ReturnsFromEnsureReady (s t : State) : Prop :=
  (s.resumesAt .start ∧ s.status.ready = true ∧ t = s) ∨
    (s.resumesAt (.freq .restart) ∧ s.unitP.initpend = true ∧
      t = { s with status.ready := true, unitP.initpend := false })

/-- The running command is inside setFreqSeq: ensureReady's (INITPEND = 1) or its own (R133, R48). SET_FREQ has hz ≠ 0. -/
def InFreqSeq (i : Instr) (s : State) : Prop :=
  (if s.unitP.initpend then usesInit i else setsFreq i) = true ∧ divZeroOperands i s.snap = false

/-- Two states agree on everything a running command reads or writes and HOST cannot write: all but ARG0..ARG4, the data of
the last HOST read, ERR, ERRCODE and the write-1-to-clear flags. -/
def SameExecution (s t : State) : Prop :=
  s.seq = t.seq ∧ s.opL = t.opL ∧ s.selL = t.selL ∧ s.snap = t.snap ∧ s.result0 = t.result0 ∧ s.result1 = t.result1 ∧
    s.lastPsc = t.lastPsc ∧ s.bus = t.bus ∧ s.trigOut = t.trigOut ∧ s.unitP = t.unitP ∧ s.unitU = t.unitU ∧
    s.unitF = t.unitF ∧ s.chip = t.chip ∧ s.status.busy = t.status.busy ∧ s.status.ready = t.status.ready

/-- Every piece of the block's state holds its reset value (spec/70_reset_and_hazards.md R300; spec/10_state.md R31 to R34,
R37, R41, R44, R46, R48 to R50). -/
def AtReset (s : State) : Prop :=
  s.arg = { a0 := 0, a1 := 0, a2 := 0, a3 := 0, a4 := 0 } ∧ s.snap = { a0 := 0, a1 := 0, a2 := 0, a3 := 0, a4 := 0 } ∧
  s.result0 = 0 ∧ s.result1 = 0 ∧ s.opL = 0 ∧ s.selL = 0 ∧ s.seq = .idle ∧ s.status.word = 0 ∧
  s.lastPsc = { valid := false, psc := 0 } ∧ s.bus.breq = false ∧ s.bus.kind.code = 0 ∧ s.bus.reg = 0 ∧ s.bus.data = 0 ∧
  s.trigOut = false ∧ s.unitP = { old := 0, pscb := 0, settle := 0, initpend := false } ∧
  s.unitU = { uph := .trigLo, ut := 0, ua := 0 } ∧ s.unitF = { fk := 0, fph := 0, ec := 0, prev := none }

/-- HOST accesses the window in this cycle, and RST = 0. -/
def State.hostAccesses (s : State) (a : HostAccess) : Prop := s.input.rst = false ∧ s.input.host = some a

/-- The block is idle: no command is accepted and not yet complete (spec/10_state.md R33). -/
def State.isIdle (s : State) : Prop := s.seq = .idle ∧ s.status.busy = false

/-- The state after `k` cycles is `t`. -/
def Runs (k : Nat) (s t : State) : Prop := Host.Core.run Sys2Proof.core k s = .next t

/-- A cycle in which RST = 0 and HOST makes no access. -/
def Quiet (x : CycleInput) : Prop := x.rst = false ∧ x.host = none

/-- The inputs of the cycles from a request's issue, exclusive, to its acknowledgement, inclusive: quiet cycles of which
only the last has BACK = 1. Their number is the request's latency L ≥ 1 (spec/70_reset_and_hazards.md R320). -/
def AckRun (l : List CycleInput) : Prop :=
  ∃ (w : List CycleInput) (a : CycleInput), l = w ++ [a] ∧ (∀ x ∈ w, Quiet x ∧ x.back = false) ∧ Quiet a ∧ a.back = true

/-- The acknowledging input of an `AckRun` brings byte `b` on BRDATA. -/
def Brings (l : List CycleInput) (b : Byte) : Prop := l.getLast?.map CycleInput.brdata = some b

/-- The 1000 cycles from one sample of unit F, exclusive, to the next, inclusive: quiet, and FREQ_IN is `v` in the last
(spec/43_sensors.md R245). -/
def SamplePeriod (v : Bool) (l : List CycleInput) : Prop :=
  l.length = freqSampleUs ∧ (∀ x ∈ l, Quiet x) ∧ l.getLast?.map CycleInput.freqIn = some v

/-- The number of rising edges in a list of samples after a previous sample (R242): a high sample after a low one. -/
def edges : Option Bool → List Bool → Nat
  | _, [] => 0
  | prev, v :: rest => (if prev = some false ∧ v = true then 1 else 0) + edges (some v) rest

end Sys2Proof.Machine
end

