-- ==== Sys2Proof/Certificates/Slice0/Obligations.lean ====
section
/-! DEFINITION. The statements for the provers. Where a next state names `rdata`, `env`, `cycle`, `masks` or `chip`, those are
the model's own fields, not the spec's (log entries 5, 2, 2, 1, 4). -/

open Sys2Proof Sys2Proof.Machine

/-! ## Encoding -/

/-- spec/30_encoding.md R100 to R104: no bit of an encoding is dropped. -/
def Obligations.DecodeOfEncode : Prop :=
  ∀ i : Instr, i.WellFormed → decodeWord (encode i) = .ok i

/-- spec/30_encoding.md R100 to R104: an accepted word has one meaning and every bit of it is in the command. -/
def Obligations.EncodeOfDecode : Prop :=
  ∀ (w : Word) (i : Instr), decodeWord w = .ok i → i.WellFormed ∧ encode i = w

/-- R105, R106: a word with RSV ≠ 0, and a word with RSV = 0 and OP in 0x0E..0xFF, are rejected, with codes 2 and 3; no
other word is rejected with those codes. -/
def Obligations.ReservedAndIllegalWordsRejected : Prop :=
  ∀ w : Word,
    (decodeWord w = .error .reservedBits ↔ w.extractLsb' 16 16 ≠ 0) ∧
    (decodeWord w = .error .illegalOp ↔ w.extractLsb' 16 16 = 0 ∧ 0x0E ≤ (w.extractLsb' 0 8).toNat) ∧
    rejectionCode .reservedBits = 2 ∧ rejectionCode .illegalOp = 3 ∧
    ∀ s : State, s.status.busy = false →
      (w.extractLsb' 16 16 ≠ 0 → s.requestCode w = some 2) ∧
      (w.extractLsb' 16 16 = 0 → 0x0E ≤ (w.extractLsb' 0 8).toNat → s.requestCode w = some 3)

/-- spec/30_encoding.md R104, R102: words written out from the opcode map decode to their commands. -/
def Obligations.SampleWordsDecode : Prop :=
  decodeWord 0x00000308 = .ok (.servo 3) ∧
  decodeWord 0x0000FF04 = .ok (.setChannel (-1)) ∧
  decodeWord 0x00001004 = .ok (.setChannel 16) ∧
  decodeWord 0x0000020D = .ok (.freqDetect 2) ∧
  decodeWord 0x0000010A = .ok (.motor .p1) ∧
  decodeWord 0x0000050B = .ok (.setFreqPreset .f) ∧
  decodeWord 0x00000006 = .ok (.mapLinear 0) ∧
  decodeWord 0x0000000C = .ok (.ultrasonic 0) ∧
  decodeWord 0x0000040A = .error .badSelector ∧
  decodeWord 0x0000060B = .error .badSelector ∧
  decodeWord 0x0000000E = .error .illegalOp ∧
  decodeWord 0x00FF0010 = .error .reservedBits

/-! ## Reset and the cycle -/

/-- R302 and the reset values of spec/10_state.md at State.reset, where every offset of the host window reads 0; the model's
own fields there, and that a cycle with RST = 1 keeps the build's masks and takes the next input, are the model's choice
(log entries 1, 2, 4, 5, 9). -/
def Obligations.ResetValues : Prop :=
  AtReset State.reset ∧ (∀ off : BitVec 6, State.reset.hostRead off = 0) ∧
  State.reset.rdata = none ∧ State.reset.chip = [] ∧ State.reset.env = [] ∧ State.reset.cycle = 0 ∧
  State.reset.masks = { sleepAnd := 0x7F, sleepOr := 0x10, restartOr := 0xA1 } ∧
  ∀ s : State, s.input.rst = true →
    step s = .next { State.reset with masks := s.masks, env := s.env.tail, cycle := s.cycle + 1 }

/-- R300: in a cycle with RST = 1 every piece of the block's state takes its reset value, whatever command runs and whatever
HOST, XPORT and the pins do in that cycle. -/
def Obligations.RstOverridesEverything : Prop :=
  ∀ s : State, s.input.rst = true → ∃ t : State, step s = .next t ∧ AtReset t

/-- spec/00_scope.md R9, spec/10_state.md R34: while a command runs, a cycle is its SEQ cycle on what the HOST access left, and
then the next inputs come; without a HOST access nothing but the read data is left different.
The read data and the next input are the model's own (log entries 2, 5). -/
def Obligations.StepRunsLatchedCommand : Prop :=
  ∀ (s : State) (i : Instr) (p : SeqPos),
    s.input.rst = false → s.status.busy = true → s.seq = .run p → s.latched = .ok i →
      step s = endCycle (exec i (s.hostAccess s.input.host).1) ∧
      (s.hostAccess none).1 = { s with rdata := none } ∧
      ∀ t : State, endCycle (.next t) = .next { t with env := t.env.tail, cycle := t.cycle + 1 }

/-- Log entry 6: a table word placed for the next step is run by it. -/
def Obligations.PlacedCommandRunsNext : Prop :=
  ∀ (s : State) (w : Nat) (i : Instr), decodeTableWord 32 w = some i →
    step (s.withFetchWord 32 w) = endCycle (exec i { s.withFetchWord 32 w with rdata := none }) ∧
    (s.withFetchWord 32 w).resumesAt .start ∧ divZeroOperands i (s.withFetchWord 32 w).snap = false

/-- spec/00_scope.md R9, R33: while IDLE, SEQ does nothing; only the HOST access changes the block.
The next input is the model's own (log entry 2). -/
def Obligations.IdleCycleOnlyServesHost : Prop :=
  ∀ s : State, s.input.rst = false → s.seq = .idle → step s = .next (s.hostAccess s.input.host).1.tick

/-! ## The host window -/

/-- R35, R72, R31, R32, R37, R41, R42: what a read of each offset returns: the register's value at the end of the cycle
before, the offset's bits [1:0] ignored. The read data is the model's output rdata (log entry 5). -/
def Obligations.HostReadMap : Prop :=
  ∀ (s t : State) (off : BitVec 6), s.hostAccesses (.read off) → step s = .next t →
    ∃ v : Word, t.rdata = some v ∧
      (off.toNat / 4 = 0 → v = 0) ∧
      (off.toNat / 4 = 1 →
        v.getLsbD 0 = s.status.busy ∧ v.getLsbD 1 = s.status.ready ∧ v.getLsbD 2 = s.status.done ∧
        v.getLsbD 3 = s.status.err ∧ v.extractLsb' 4 4 = s.status.errcode ∧ v.getLsbD 8 = s.status.pscOor ∧
        v.getLsbD 9 = s.status.chIgn ∧ v.getLsbD 10 = s.status.noEcho ∧ v.getLsbD 11 = s.status.clamped ∧
        v.getLsbD 12 = s.status.ovf ∧ v.extractLsb' 13 19 = 0) ∧
      (off.toNat / 4 = 2 → v = s.arg.a0) ∧ (off.toNat / 4 = 3 → v = s.arg.a1) ∧
      (off.toNat / 4 = 4 → v = s.arg.a2) ∧ (off.toNat / 4 = 5 → v = s.arg.a3) ∧
      (off.toNat / 4 = 6 → v = s.arg.a4) ∧ (off.toNat / 4 = 7 → v = s.result0) ∧
      (off.toNat / 4 = 8 → v = s.result1) ∧
      (off.toNat / 4 = 9 →
        v.extractLsb' 0 8 = s.lastPsc.psc ∧ v.getLsbD 8 = s.lastPsc.valid ∧ v.extractLsb' 9 23 = 0) ∧
      (10 ≤ off.toNat / 4 → v = 0)

/-- R31, R32, R41, R42: at any time, a running command or not, a write to ARG0..ARG4 changes that register alone, and RESULT0,
RESULT1, LAST_PSC and the reserved offsets ignore writes. SEQ's step of the cycle, if a command runs, is taken on that state, and
ARG0..ARG4 hold those values after the cycle. The empty read data and the next input are the model's own (log entries 2, 5). -/
def Obligations.HostWriteMap : Prop :=
  ∀ (s : State) (off : BitVec 6) (v : Word), s.hostAccesses (.write off v) → 2 ≤ off.toNat / 4 →
    let arg : Operands :=
      { a0 := if off.toNat / 4 = 2 then v else s.arg.a0
        a1 := if off.toNat / 4 = 3 then v else s.arg.a1
        a2 := if off.toNat / 4 = 4 then v else s.arg.a2
        a3 := if off.toNat / 4 = 5 then v else s.arg.a3
        a4 := if off.toNat / 4 = 6 then v else s.arg.a4 }
    (s.seq = .idle →
      step s = .next { s with arg := arg, rdata := none, env := s.env.tail, cycle := s.cycle + 1 }) ∧
    (∀ (i : Instr) (p : SeqPos), s.seq = .run p → s.latched = .ok i →
      step s = endCycle (exec i { s with arg := arg, rdata := none })) ∧
    ∀ t : State, step s = .next t → t.arg = arg

/-- R38 while IDLE: each W1C bit that is 1 in the written value is cleared, ERR with ERRCODE; the others and BUSY, READY are
unchanged, and nothing else is.
The empty read data and the next input are the model's own (log entries 2, 5). -/
def Obligations.StatusWriteClears : Prop :=
  ∀ (s : State) (off : BitVec 6) (v : Word), s.hostAccesses (.write off v) → s.isIdle → off.toNat / 4 = 1 →
    step s = .next
      { s with
        status :=
          { busy := s.status.busy
            ready := s.status.ready
            done := if v.getLsbD 2 then false else s.status.done
            err := if v.getLsbD 3 then false else s.status.err
            errcode := if v.getLsbD 3 then 0 else s.status.errcode
            pscOor := if v.getLsbD 8 then false else s.status.pscOor
            chIgn := if v.getLsbD 9 then false else s.status.chIgn
            noEcho := if v.getLsbD 10 then false else s.status.noEcho
            clamped := if v.getLsbD 11 then false else s.status.clamped
            ovf := if v.getLsbD 12 then false else s.status.ovf }
        rdata := none
        env := s.env.tail
        cycle := s.cycle + 1 }

/-- R38, R276: a flag the block sets in the cycle of a W1C write of it is 1 afterwards. Whatever SEQ sets in its cycle on
the cleared STATUS is set; a command that completes in the cycle leaves DONE = 1 though DONE is written 1. -/
def Obligations.SetBeatsClear : Prop :=
  ∀ (s t : State) (off : BitVec 6) (v : Word), s.hostAccesses (.write off v) → off.toNat / 4 = 1 →
    step s = .next t →
      (s.status.busy = true → t.status.busy = false → t.status.done = true) ∧
      (∀ (i : Instr) (u : State), s.status.busy = true → s.seq ≠ .idle → s.latched = .ok i →
        exec i { s with status := s.status.w1c v, rdata := none } = .next u → t.status = u.status)

/-- R273, R272: a CMD write is judged at the HOST access, before SEQ's step, on BUSY and ARG0..ARG4 as they stand; its code is
that of the first condition that holds. A rejection sets ERR, captures the code unless ERR was 1, and leaves all else
unchanged; without a code the request is accepted as R34 and R36 say.
The empty read data is the model's own (log entry 5). -/
def Obligations.RequestValidationOrder : Prop :=
  ∀ (s : State) (off : BitVec 6) (w : Word), off.toNat / 4 = 0 →
    let op := (w.extractLsb' 0 8).toNat
    let sel := (w.extractLsb' 8 8).toNat
    let code : Option (BitVec 4) :=
      if s.status.busy then some 1
      else if w.extractLsb' 16 16 ≠ 0 then some 2
      else if 0x0E ≤ op then some 3
      else if (op = 0x0A ∧ 3 < sel) ∨ (op = 0x0B ∧ 5 < sel) then some 4
      else if ((op = 0x02 ∨ op = 0x03) ∧ s.arg.a0 = 0) ∨ (op = 0x06 ∧ s.arg.a1 = s.arg.a2) then some 5
      else none
    s.requestCode w = code ∧
    s.hostAccess (some (.write off w)) =
      match code with
      | some k =>
        ({ s with
            status.err := true
            status.errcode := if s.status.err then s.status.errcode else k
            rdata := none }, false)
      | none =>
        ({ s with
            status.busy := true
            opL := w.extractLsb' 0 8
            selL := w.extractLsb' 8 8
            snap := s.arg
            seq := .run .start
            rdata := none }, true)

/-- R36, R34: an accepted CMD write sets BUSY, latches OP and SEL, takes the snapshot and puts SEQ at the first step, which
happens in the next cycle; nothing else changes.
The empty read data and the next input are the model's own (log entries 2, 5). -/
def Obligations.AcceptedCommandIsLatched : Prop :=
  ∀ (s : State) (off : BitVec 6) (w : Word), s.hostAccesses (.write off w) → off.toNat / 4 = 0 →
    s.requestCode w = none →
      step s = .next
        { s with
          status.busy := true
          opL := w.extractLsb' 0 8
          selL := w.extractLsb' 8 8
          snap := s.arg
          seq := .run .start
          rdata := none
          env := s.env.tail
          cycle := s.cycle + 1 }

/-- R40, R272, R277: a rejected request of an idle block sets ERR, captures its code unless ERR was already 1, and changes
nothing else.
The empty read data and the next input are the model's own (log entries 2, 5). -/
def Obligations.RejectionIsPrecise : Prop :=
  ∀ (s : State) (off : BitVec 6) (w : Word) (k : BitVec 4), s.hostAccesses (.write off w) → off.toNat / 4 = 0 →
    s.seq = .idle → s.requestCode w = some k →
      step s = .next
        { s with
          status.err := true
          status.errcode := if s.status.err then s.status.errcode else k
          rdata := none
          env := s.env.tail
          cycle := s.cycle + 1 }

/-- R40: ERRCODE capture, for every rejection, running command or not: the first rejection wins, and SEQ never touches ERR or
ERRCODE in the same cycle. -/
def Obligations.FirstRejectionWins : Prop :=
  ∀ (s t : State) (off : BitVec 6) (w : Word) (k : BitVec 4), s.hostAccesses (.write off w) → off.toNat / 4 = 0 →
    s.requestCode w = some k → step s = .next t →
      (s.status.err = false → t.status.err = true ∧ t.status.errcode = k) ∧
      (s.status.err = true → t.status.err = true ∧ t.status.errcode = s.status.errcode)

/-- R85, R272 (code 1), R31: no HOST action changes the behaviour of a running command. Two cycles that differ in the HOST
access, in ARG0..ARG4 and in the flags HOST can clear end in the same execution state. -/
def Obligations.HostCannotDisturbRunningCommand : Prop :=
  ∀ (s s' t : State) (x : CycleInput) (h : Option HostAccess) (rest rest' : List CycleInput),
    SameExecution s s' → s.masks = s'.masks → s.cycle = s'.cycle → s.env = x :: rest →
    s'.env = { x with host := h } :: rest' → x.rst = false → s.status.busy = true → s.seq ≠ .idle →
    step s = .next t → ∃ t' : State, step s' = .next t' ∧ SameExecution t t'

/-! ## The bus port -/

/-- R45 for every command and every request: while BREQ = 1 a SEQ cycle only waits for BACK; the acknowledging cycle drops
BREQ, takes a READ1's byte into OLD, records LAST_PSC for setFreqSeq's PRESCALE write (R41), and records the bytes written
to the external addresses of the request, every other address as before (log entry 4). BKIND, BREG and BDATA stay (log entry
11). -/
def Obligations.BusHandshake : Prop :=
  ∀ (i : Instr) (s : State) (p : SeqPos), s.seq = .run p → s.bus.breq = true →
    (s.input.back = false → exec i s = .next s) ∧
    (s.input.back = true →
      ∃ m : Memory,
        exec i s = .next
          { s with
            bus.breq := false
            unitP.old := if s.bus.kind = .read1 then s.input.brdata else s.unitP.old
            lastPsc := if p = .freq .prescale then { valid := true, psc := s.unitP.pscb } else s.lastPsc
            chip := m } ∧
        (∀ a : Nat,
          m.read a =
            if s.bus.reg.toNat ≤ a ∧ a < s.bus.reg.toNat + s.bus.kind.bytes then
              some (s.bus.data.extractLsb' (8 * (a - s.bus.reg.toNat)) 8)
            else Memory.read s.chip a) ∧
        (Memory.wf s.chip = true → m.wf = true))

/-- R45.2: the request's BREQ, BKIND, BREG and BDATA stay unchanged until it completes, whatever HOST does.
The record of writes is log entry 4. -/
def Obligations.RequestStableUntilAck : Prop :=
  ∀ s t : State, s.input.rst = false → s.input.back = false → s.status.busy = true → s.seq ≠ .idle →
    s.bus.breq = true → step s = .next t → t.bus = s.bus ∧ t.seq = s.seq ∧ t.chip = s.chip

/-- R45.6: if BACK does not come, the command does not complete and BUSY stays 1, for any number of cycles.
The inputs are the list env (log entry 2). -/
def Obligations.UnacknowledgedRequestBlocks : Prop :=
  ∀ (k : Nat) (s : State) (i : Instr) (p : SeqPos), s.seq = .run p → s.latched = .ok i → s.bus.breq = true →
    s.status.busy = true → k ≤ s.env.length → (∀ x ∈ s.env.take k, Quiet x ∧ x.back = false) →
    ∃ t : State, Runs k s t ∧ t.status = s.status ∧ t.bus = s.bus ∧ t.seq = s.seq ∧ t.env = s.env.drop k

/-- R71, R44: the block issues requests only to MODE1, PRESCALE and the 64 LED-control addresses, reads only MODE1, and
records no write elsewhere: every cycle keeps that, from every state.
The record of writes is log entry 4. -/
def Obligations.RequestsStayInChipMap : Prop :=
  ∀ s t : State, BusOk s → step s = .next t → BusOk t

/-! ## The arithmetic -/

/-- R132: the prescaler calculator, against the document's formula over the rationals. -/
def Obligations.PrescaleFormula : Prop :=
  ∀ A : Nat, 1 ≤ A → A < 2 ^ 32 →
    let r := calcPrescale A
    r.raw = ⌊((25000000 : ℚ) / 4096) / ((A : ℚ) / 65536) + 1 / 2⌋ - 1 ∧
    (r.byte.toNat : Int) = r.raw % 256 ∧
    (r.oor = true ↔ r.raw < 0 ∨ 255 < r.raw) ∧
    -1 ≤ r.raw ∧ r.raw ≤ 399999999 ∧
    ((0 ≤ r.raw ∧ r.raw ≤ 255) ↔ 1559455 ≤ A ∧ A ≤ 800000000)

/-- R135: clampTick saturates to 0..4095, never wraps, and says whether it changed the value. -/
def Obligations.ClampTickSaturates : Prop :=
  ∀ v : Int,
    (v < 0 → clampTick v = (0, true)) ∧ (4095 < v → clampTick v = (4095, true)) ∧
    (0 ≤ v → v ≤ 4095 → clampTick v = (v, false))

/-- R138, R74, R75: the frame's bytes for clamped ticks: b0 = on2[7:0], b1 = on2[15:8], b2 = off2[7:0], b3 = off2[15:8],
the low byte at the lower address and the high byte's bits 7:4 zero; channel c starts at 0x06 + 4c. -/
def Obligations.FrameLayout : Prop :=
  ∀ on off ch : Int, 0 ≤ ch → ch ≤ 15 →
    let on2 := (clampTick on).1
    let off2 := (clampTick off).1
    let d := frame on2 off2
    (d.extractLsb' 0 16).toNat = on2.toNat ∧ (d.extractLsb' 16 16).toNat = off2.toNat ∧
    ((d.extractLsb' 0 8).toNat : Int) = on2 % 256 ∧ ((d.extractLsb' 8 8).toNat : Int) = on2 / 256 ∧
    ((d.extractLsb' 16 8).toNat : Int) = off2 % 256 ∧ ((d.extractLsb' 24 8).toNat : Int) = off2 / 256 ∧
    d.extractLsb' 12 4 = 0 ∧ d.extractLsb' 28 4 = 0 ∧ ((channelReg ch).toNat : Int) = 0x06 + 4 * ch

/-- R181: mapLinear is the exact rational truncated toward zero. -/
def Obligations.MapLinearTruncates : Prop :=
  ∀ x inMin inMax outMin outMax : Int, inMin ≠ inMax →
    let q : ℚ := ((x : ℚ) - inMin) * ((outMax : ℚ) - outMin) / ((inMax : ℚ) - inMin) + outMin
    (0 ≤ q → mapLinear x inMin inMax outMin outMax = ⌊q⌋) ∧ (q ≤ 0 → mapLinear x inMin inMax outMin outMax = ⌈q⌉)

/-- R184: the five laws of the mappers. -/
def Obligations.MapperLaws : Prop :=
  (∀ x y inMin inMax outMin outMax : Int, inMin < inMax → outMin < outMax → x ≤ y →
    mapLinear x inMin inMax outMin outMax ≤ mapLinear y inMin inMax outMin outMax) ∧
  (∀ x y inMin inMax outMin outMax : Int, inMin < inMax → outMax < outMin → x ≤ y →
    mapLinear y inMin inMax outMin outMax ≤ mapLinear x inMin inMax outMin outMax) ∧
  (∀ inMin inMax outMin outMax : Int, inMin ≠ inMax →
    mapLinear inMin inMin inMax outMin outMax = outMin ∧ mapLinear inMax inMin inMax outMin outMax = outMax) ∧
  (∀ v : Int, (mapMotorSpeed (-v)).1 = -(mapMotorSpeed v).1) ∧
  (∀ v w : Int, v ≤ w → (mapMotorSpeed v).1 ≤ (mapMotorSpeed w).1)

/-- R183: sixteen times the speed inside -255..255, ±4095 with the flag from |speed| = 256 on. -/
def Obligations.MotorSpeedSaturates : Prop :=
  ∀ v : Int,
    (-255 ≤ v → v ≤ 255 → mapMotorSpeed v = (16 * v, false)) ∧
    (256 ≤ v → mapMotorSpeed v = (4095, true)) ∧ (v ≤ -256 → mapMotorSpeed v = (-4095, true))

/-- R243: the label of a corrected count, and of a raw edge count less the correction of 2. -/
def Obligations.ClassifyTable : Prop :=
  (∀ c : Int,
    (54 ≤ c → classify c = 65) ∧ (c = 53 → classify c = 66) ∧ (c = 52 → classify c = 67) ∧
    (c = 51 → classify c = 68) ∧ (c = 50 → classify c = 69) ∧ (c = 49 → classify c = 70) ∧
    (c ≤ 48 → classify c = 88)) ∧
  ∀ ec : Nat,
    (56 ≤ ec → classify (ec - freqCorr) = 65) ∧ (ec = 55 → classify (ec - freqCorr) = 66) ∧
    (ec = 54 → classify (ec - freqCorr) = 67) ∧ (ec = 53 → classify (ec - freqCorr) = 68) ∧
    (ec = 52 → classify (ec - freqCorr) = 69) ∧ (ec = 51 → classify (ec - freqCorr) = 70) ∧
    (ec ≤ 50 → classify (ec - freqCorr) = 88)

/-- Values the rules print: R132 and R142 (50 Hz, the exact tie, the bounds of A), R134 (23 Hz and 1 Hz), R203 (the wiring
table), R205 (the presets and their prescales), R200 to R202 (points of the servo mapping). -/
def Obligations.PrintedValues : Prop :=
  calcPrescale 0x00320000 = { raw := 121, byte := 0x79, oor := false } ∧
  calcPrescale 0x0061A800 = { raw := 62, byte := 0x3E, oor := false } ∧
  calcPrescale 0x00170000 = { raw := 264, byte := 0x08, oor := true } ∧
  calcPrescale 0x00010000 = { raw := 6103, byte := 0xD7, oor := true } ∧
  calcPrescale 0xFFFFFFFF = { raw := -1, byte := 0xFF, oor := true } ∧
  calcPrescale 1 = { raw := 399999999, byte := 0xFF, oor := true } ∧
  motorMap .p0 = (10, 11) ∧ motorMap .p1 = (9, 8) ∧ motorMap .p2 = (13, 12) ∧ motorMap .p3 = (14, 15) ∧
  (calcPrescale (presetHz .a)).raw = 132 ∧ (calcPrescale (presetHz .b)).raw = 129 ∧
  (calcPrescale (presetHz .c)).raw = 126 ∧ (calcPrescale (presetHz .d)).raw = 124 ∧
  (calcPrescale (presetHz .e)).raw = 121 ∧ (calcPrescale (presetHz .f)).raw = 119 ∧
  presetHz .a = 46 * 65536 ∧ presetHz .b = 47 * 65536 ∧ presetHz .c = 48 * 65536 ∧ presetHz .d = 49 * 65536 ∧
  presetHz .e = 50 * 65536 ∧ presetHz .f = 51 * 65536 ∧
  servoTick 0 = 104 ∧ servoTick 180 = 510 ∧ servoTick 90 = 307 ∧ servoTick (-500) = -1023 ∧ servoTick 5000 = 11381 ∧
  servoTickRange 1 500 100 = 497 ∧ servoTickRange 90 (-300) (-100) = -200

/-! ## The commands without bus requests -/

/-- R140, R142, R145, R180, R182: NOP, CALC_PRESCALE, CLAMP_TICK, MAP_LINEAR and MAP_MOTOR complete in their first SEQ cycle;
the whole next state. -/
def Obligations.PureCommandsComplete : Prop :=
  ∀ (s : State) (sel : Byte), s.resumesAt .start →
    (exec (.nop sel) s = .next { s with seq := .idle, status.busy := false, status.done := true }) ∧
    (s.snap.a0 ≠ 0 →
      let r := calcPrescale s.snap.a0.toNat
      exec (.calcPrescale sel) s = .next
        { s with
          seq := .idle, result0 := BitVec.ofInt 32 r.raw, result1 := r.byte.setWidth 32
          status.busy := false, status.done := true, status.pscOor := s.status.pscOor || r.oor }) ∧
    (let v := s.snap.a0.toInt;
      exec (.clampTick sel) s = .next
        { s with
          seq := .idle, result0 := BitVec.ofInt 32 (min (max v 0) 4095)
          status.busy := false, status.done := true
          status.clamped := s.status.clamped || decide (v < 0 ∨ 4095 < v) }) ∧
    (s.snap.a1 ≠ s.snap.a2 →
      let r := mapLinear s.snap.a0.toInt s.snap.a1.toInt s.snap.a2.toInt s.snap.a3.toInt s.snap.a4.toInt
      exec (.mapLinear sel) s = .next
        { s with
          seq := .idle, result0 := BitVec.ofInt 32 (min (max r (-2147483648)) 2147483647)
          status.busy := false, status.done := true
          status.ovf := s.status.ovf || decide (r < -2147483648 ∨ 2147483647 < r) }) ∧
    (let p := 16 * s.snap.a0.toInt;
      exec (.mapMotor sel) s = .next
        { s with
          seq := .idle, result0 := BitVec.ofInt 32 (min (max p (-4095)) 4095)
          status.busy := false, status.done := true
          status.clamped := s.status.clamped || decide (p < -4095 ∨ 4095 < p) })

/-- R320 and R130 for the commands without bus requests: an accepted NOP, CALC_PRESCALE, CLAMP_TICK, MAP_LINEAR or MAP_MOTOR
word, at any SEL, is complete one cycle after its acceptance, with the operands that ARG0..ARG4 held then.
The read data and the inputs are the model's own (log entries 2, 5). -/
def Obligations.PureCommandsTakeOneCycle : Prop :=
  ∀ (s : State) (w : Word) (x y : CycleInput) (rest : List CycleInput) (i : Instr),
    s.isIdle → s.bus.breq = false → s.env = x :: y :: rest → x.rst = false → x.host = some (.write 0 w) → Quiet y →
    decodeWord w = .ok i → divZeroOperands i s.arg = false → isPure i = true →
    ∃ t u : State, Runs 1 s t ∧ t.status.busy = true ∧ Runs 2 s u ∧ u.isIdle ∧ u.status.done = true ∧
      u.bus = s.bus ∧ u.status.ready = s.status.ready ∧ u.env = rest ∧ u.snap = s.arg ∧
      exec i { t with rdata := none } = .next { u with env := y :: rest, cycle := t.cycle }

/-- Log entry 7: the four situations in which the model stops, and that none of them is how an accepted command starts. A meaning
faults while no command runs; with no request outstanding it faults at a position its pseudocode does not have, and CALC_PRESCALE
and MAP_LINEAR at their start, and SET_FREQ anywhere, on the operands of R272's code 5; a step faults if a running command's
latch holds no command. No meaning refuses. An accepted request latches a command whose operands code 5 lets through, at its
start, where the meaning answers a next state as soon as no request is outstanding. -/
def Obligations.StopsOutsideAcceptedCommands : Prop :=
  (∀ (i : Instr) (s : State), s.seq = .idle → exec i s = .fault .notRunning) ∧
  (∀ (i : Instr) (s : State) (p : SeqPos), s.resumesAt p → divZeroOperands i s.snap = true →
    (p = .start ∨ ∃ sel, i = .setFreq sel) → exec i s = .fault .divZero) ∧
  (∀ (i : Instr) (s : State) (p : SeqPos), s.resumesAt p → divZeroOperands i s.snap = false →
    (exec i s = .fault .offPseudocode ↔ hasPosition i s.unitP.initpend p = false)) ∧
  (∀ (s : State) (p : SeqPos) (e : DecodeError), s.input.rst = false → s.status.busy = true → s.seq = .run p →
    s.latched = .error e → step s = .fault .badLatch) ∧
  (∀ (i : Instr) (s : State) (r : Refusal), exec i s ≠ .refused r) ∧
  ∀ (s t : State) (off : BitVec 6) (w : Word), s.hostAccesses (.write off w) → off.toNat / 4 = 0 →
    s.requestCode w = none → step s = .next t →
      ∃ i : Instr, t.latched = .ok i ∧ t.seq = .run .start ∧ divZeroOperands i t.snap = false ∧
        (t.bus.breq = false → ∃ u : State, exec i t = .next u)

/-- spec/00_scope.md R7, R180: CALC_PRESCALE, CLAMP_TICK, MAP_LINEAR and MAP_MOTOR change, of all the state, only BUSY, DONE,
SEQ_STATE and what their rules name: their results and their flag. NOP changes BUSY, DONE and SEQ_STATE alone.
External bytes are those of the model's own record (log entry 4). -/
def Obligations.PureCommandsFrame : Prop :=
  ∀ (s t : State) (i : Instr), isPure i = true → s.bus.breq = false → exec i s = .next t →
      t.arg = s.arg ∧ t.snap = s.snap ∧ t.opL = s.opL ∧ t.selL = s.selL ∧ t.lastPsc = s.lastPsc ∧ t.bus = s.bus ∧
      t.trigOut = s.trigOut ∧ t.unitP = s.unitP ∧ t.unitU = s.unitU ∧ t.unitF = s.unitF ∧ t.rdata = s.rdata ∧
      t.masks = s.masks ∧ t.env = s.env ∧ t.cycle = s.cycle ∧ (∀ a, Memory.read t.chip a = Memory.read s.chip a) ∧
      t.status.ready = s.status.ready ∧ t.status.err = s.status.err ∧ t.status.errcode = s.status.errcode ∧
      t.status.chIgn = s.status.chIgn ∧ t.status.noEcho = s.status.noEcho ∧
      (i.opcode ≠ 0x02 → t.status.pscOor = s.status.pscOor ∧ t.result1 = s.result1) ∧
      (i.opcode ≠ 0x05 → i.opcode ≠ 0x07 → t.status.clamped = s.status.clamped) ∧
      (i.opcode ≠ 0x06 → t.status.ovf = s.status.ovf) ∧
      (i.opcode = 0x00 → t.result0 = s.result0)

/-! ## Lazy initialization and the frequency-set sequence -/

/-- R131: a command that calls ensureReady with READY = 0 first writes 0x00 to MODE1 with INITPEND = 1, and then calls
setFreqSeq with 50 Hz: PSCB = 0x79, no PSC_OOR, and the MODE1 read, whose BDATA is free, the model's choice of log entry 3. -/
def Obligations.EnsureReadyRunsFirst : Prop :=
  ∀ (i : Instr) (s : State), usesInit i = true → divZeroOperands i s.snap = false →
    (s.resumesAt .start → s.status.ready = false →
      exec i s = .next
        { s with
          unitP.initpend := true
          bus := { breq := true, kind := .write1, reg := 0x00, data := 0x00000000 }
          seq := .run .initWake }) ∧
    (s.resumesAt .initWake →
      exec i s = .next
        { s with
          unitP.pscb := 0x79
          bus := { breq := true, kind := .read1, reg := 0x00, data := Config.readBdata s.cycle }
          seq := .run (.freq .read) })

/-- R131, 90_conflicts C3: the commands that do not call ensureReady (NOP, CALC_PRESCALE, CLAMP_TICK, MAP_LINEAR, MAP_MOTOR,
ULTRASONIC, and SET_CHANNEL and FREQ_DETECT with an invalid channel) issue no request, leave READY alone, and record no
write (log entry 4). -/
def Obligations.CommandsWithoutInitIssueNothing : Prop :=
  ∀ (i : Instr) (s t : State), usesInit i = false → s.bus.breq = false → exec i s = .next t →
    t.bus = s.bus ∧ t.status.ready = s.status.ready ∧ t.unitP = s.unitP ∧ t.lastPsc = s.lastPsc ∧ t.chip = s.chip

/-- R133, R310: inside setFreqSeq, ensureReady's or the command's own, the requests come in the order sleep, PRESCALE,
restore, and after the wait restart, each in the cycle after the one before it was acknowledged; nothing but the port, the
position and SETTLE changes. Holds for every choice of the MODE1 masks (log entry 1); SETTLE's value in each cycle is log entry
14. -/
def Obligations.FrequencySequenceOrder : Prop :=
  ∀ (i : Instr) (s : State), InFreqSeq i s →
    (s.resumesAt (.freq .read) →
      exec i s = .next
        { s with
          bus :=
            { breq := true, kind := .write1, reg := 0x00
              data := ((s.unitP.old &&& s.masks.sleepAnd) ||| s.masks.sleepOr).setWidth 32 }
          seq := .run (.freq .sleep) }) ∧
    (s.resumesAt (.freq .sleep) →
      exec i s = .next
        { s with
          bus := { breq := true, kind := .write1, reg := 0xFE, data := s.unitP.pscb.setWidth 32 }
          seq := .run (.freq .prescale) }) ∧
    (s.resumesAt (.freq .prescale) →
      exec i s = .next
        { s with
          bus := { breq := true, kind := .write1, reg := 0x00, data := s.unitP.old.setWidth 32 }
          seq := .run (.freq .restore) }) ∧
    (s.resumesAt (.freq .restore) →
      exec i s = .next { s with unitP.settle := 5000, seq := .run (.freq .settle) }) ∧
    (s.resumesAt (.freq .settle) → 1 < s.unitP.settle.toNat →
      exec i s = .next { s with unitP.settle := s.unitP.settle - 1 }) ∧
    (s.resumesAt (.freq .settle) → s.unitP.settle.toNat ≤ 1 →
      exec i s = .next
        { s with
          unitP.settle := 0
          bus :=
            { breq := true, kind := .write1, reg := 0x00
              data := (s.unitP.old ||| s.masks.restartOr).setWidth 32 }
          seq := .run (.freq .restart) })

/-- R133's settle gap, R310: from the acknowledging cycle of the restore write on, no request is made for 5000 whole cycles,
and the restart write is issued SETTLE_US + 1 = 5001 cycles after it. -/
def Obligations.SettleGap : Prop :=
  ∀ (s : State) (i : Instr) (x : CycleInput) (l : List CycleInput) (rest : List CycleInput),
    s.seq = .run (.freq .restore) → s.bus.breq = true → s.latched = .ok i → InFreqSeq i s → s.status.busy = true →
    s.bus.kind = .write1 → s.env = (x :: l) ++ rest → Quiet x → x.back = true → (∀ y ∈ l, Quiet y) → l.length = 5001 →
    (∀ k, 1 ≤ k → k ≤ 5001 → ∃ t, Runs k s t ∧ t.bus.breq = false ∧ t.status.busy = true) ∧
    ∃ t, Runs 5002 s t ∧ t.env = rest ∧ t.seq = .run (.freq .restart) ∧
      t.bus =
        { breq := true, kind := .write1, reg := 0x00, data := (s.unitP.old ||| s.masks.restartOr).setWidth 32 }

/-- R141: INIT completes at once with READY = 1, and else when ensureReady's sequence is done, setting READY. -/
def Obligations.InitCompletes : Prop :=
  ∀ (s t : State) (sel : Byte), ReturnsFromEnsureReady s t →
    exec (.init sel) s = .next { t with seq := .idle, status.busy := false, status.done := true }

/-- R143: SET_FREQ after ensureReady computes the prescale, sets PSC_OOR if it is out of range, and reads MODE1; after its own
restart write it completes with raw in RESULT0 and the byte in RESULT1. BDATA of the MODE1 read is free, the model's choice of
log entry 3. -/
def Obligations.SetFreqCompletes : Prop :=
  ∀ (s : State) (sel : Byte), s.snap.a0 ≠ 0 →
    let r := calcPrescale s.snap.a0.toNat
    (∀ t, ReturnsFromEnsureReady s t →
      exec (.setFreq sel) s = .next
        { t with
          unitP.pscb := r.byte
          status.pscOor := t.status.pscOor || r.oor
          bus := { breq := true, kind := .read1, reg := 0x00, data := Config.readBdata s.cycle }
          seq := .run (.freq .read) }) ∧
    (s.resumesAt (.freq .restart) → s.unitP.initpend = false →
      exec (.setFreq sel) s = .next
        { s with
          result0 := BitVec.ofInt 32 r.raw, result1 := s.unitP.pscb.setWidth 32
          seq := .idle, status.busy := false, status.done := true })

/-- R206: SET_FREQ_PRESET after ensureReady writes 0x00 to MODE1, then runs setFreqSeq with the preset's hz, and completes with
raw in RESULT0 and the byte in RESULT1; no preset is out of range. BDATA of the MODE1 read is free, the model's choice of log
entry 3. -/
def Obligations.SetFreqPresetCompletes : Prop :=
  ∀ (s : State) (p : Preset),
    let r := calcPrescale (presetHz p)
    r.oor = false ∧
    (∀ t, ReturnsFromEnsureReady s t →
      exec (.setFreqPreset p) s = .next
        { t with
          bus := { breq := true, kind := .write1, reg := 0x00, data := 0x00000000 }
          seq := .run .presetMode1 }) ∧
    (s.resumesAt .presetMode1 →
      exec (.setFreqPreset p) s = .next
        { s with
          unitP.pscb := r.byte
          bus := { breq := true, kind := .read1, reg := 0x00, data := Config.readBdata s.cycle }
          seq := .run (.freq .read) }) ∧
    (s.resumesAt (.freq .restart) → s.unitP.initpend = false →
      exec (.setFreqPreset p) s = .next
        { s with
          result0 := BitVec.ofInt 32 r.raw, result1 := s.unitP.pscb.setWidth 32
          seq := .idle, status.busy := false, status.done := true })

/-- R131, R133, R141, R320: INIT from its first SEQ cycle with READY = 0, for every latency of its six requests and whatever
byte `b` the MODE1 read brings: it completes 5007 + L_0 + ... + L_5 cycles later with READY = 1, LAST_PSC = 0x179,
RESULT0 and RESULT1 unchanged, and what it last wrote to MODE1 and PRESCALE recorded in the model's own record of acknowledged
writes (log entry 4). -/
def Obligations.InitRunsToReady : Prop :=
  ∀ (s : State) (sel b : Byte) (x0 x1 x2 x3 x4 x5 x6 : CycleInput) (l0 l1 l2 l3 l4 l5 w rest : List CycleInput),
    s.resumesAt .start → s.latched = .ok (.init sel) → s.status.busy = true → s.status.ready = false →
    (∀ x ∈ [x0, x1, x2, x3, x4, x5, x6], Quiet x) → (∀ x ∈ w, Quiet x) → w.length = 5000 →
    AckRun l0 → AckRun l1 → AckRun l2 → AckRun l3 → AckRun l4 → AckRun l5 → Brings l1 b →
    s.env = (x0 :: l0) ++ ((x1 :: l1) ++ ((x2 :: l2) ++ ((x3 :: l3) ++ ((x4 :: l4) ++ ((x5 :: w) ++ (l5 ++
      (x6 :: rest))))))) →
    ∃ t : State,
      Runs (5007 + l0.length + l1.length + l2.length + l3.length + l4.length + l5.length) s t ∧
      t.isIdle ∧ t.status = { s.status with busy := false, done := true, ready := true } ∧
      t.lastPsc = { valid := true, psc := 0x79 } ∧ t.result0 = s.result0 ∧ t.result1 = s.result1 ∧
      t.unitP.initpend = false ∧ t.unitP.old = b ∧ t.env = rest ∧
      Memory.read t.chip 0x00 = some (b ||| s.masks.restartOr) ∧ Memory.read t.chip 0xFE = some 0x79

/-! ## The channel commands -/

/-- R144: SET_CHANNEL. An invalid channel completes in the first cycle with CH_IGN, no request and no ensureReady; a valid one,
after ensureReady, writes the frame of the clamped ticks at 0x06 + 4*ch; both end with the clamped ticks in the results. -/
def Obligations.SetChannelCompletes : Prop :=
  ∀ (s : State) (ch : Int),
    let on := s.snap.a0.toInt
    let off := s.snap.a1.toInt
    let changed := (clampTick on).2 || (clampTick off).2
    (s.resumesAt .start → (ch < 0 ∨ 15 < ch) →
      exec (.setChannel ch) s = .next
        { s with
          result0 := BitVec.ofInt 32 (clampTick on).1, result1 := BitVec.ofInt 32 (clampTick off).1
          seq := .idle, status.busy := false, status.done := true
          status.clamped := s.status.clamped || changed, status.chIgn := true }) ∧
    (∀ t, 0 ≤ ch → ch ≤ 15 → ReturnsFromEnsureReady s t →
      exec (.setChannel ch) s = .next
        { t with
          status.clamped := t.status.clamped || changed
          bus :=
            { breq := true, kind := .write4, reg := channelReg ch
              data := frame (clampTick on).1 (clampTick off).1 }
          seq := .run .chanFirst }) ∧
    (0 ≤ ch → ch ≤ 15 → s.resumesAt .chanFirst →
      exec (.setChannel ch) s = .next
        { s with
          result0 := BitVec.ofInt 32 (clampTick on).1, result1 := BitVec.ofInt 32 (clampTick off).1
          seq := .idle, status.busy := false, status.done := true })

/-- R201, R202: SERVO and SERVO_RANGE. After ensureReady a valid channel gets on-tick 0 and the clamped mapped off-tick, an
invalid one only sets CH_IGN and completes; RESULT0 is the clamped off-tick. -/
def Obligations.ServoCommandsComplete : Prop :=
  ∀ (s : State) (ch : Int) (i : Instr) (off : Int),
    (i = .servo ch ∧ off = servoTick s.snap.a0.toInt ∨
      i = .servoRange ch ∧ off = servoTickRange s.snap.a0.toInt s.snap.a1.toInt s.snap.a2.toInt) →
    (∀ t, (ch < 0 ∨ 15 < ch) → ReturnsFromEnsureReady s t →
      exec i s = .next
        { t with
          result0 := BitVec.ofInt 32 (clampTick off).1
          seq := .idle, status.busy := false, status.done := true
          status.clamped := t.status.clamped || (clampTick off).2, status.chIgn := true }) ∧
    (∀ t, 0 ≤ ch → ch ≤ 15 → ReturnsFromEnsureReady s t →
      exec i s = .next
        { t with
          status.clamped := t.status.clamped || (clampTick off).2
          bus := { breq := true, kind := .write4, reg := channelReg ch, data := frame 0 (clampTick off).1 }
          seq := .run .chanFirst }) ∧
    (0 ≤ ch → ch ≤ 15 → s.resumesAt .chanFirst →
      exec i s = .next
        { s with
          result0 := BitVec.ofInt 32 (clampTick off).1
          seq := .idle, status.busy := false, status.done := true })

/-- R204: MOTOR. After ensureReady CLAMPED is set if the speed saturated, the magnitude goes to the forward channel for a
non-negative mapped speed and to the reverse channel otherwise, then 0 to the other; RESULT0 is the signed mapped speed. -/
def Obligations.MotorCompletes : Prop :=
  ∀ (s : State) (port : MotorPort),
    let m := (mapMotorSpeed s.snap.a0.toInt).1
    let first := if 0 ≤ m then (motorMap port).1 else (motorMap port).2
    let second := if 0 ≤ m then (motorMap port).2 else (motorMap port).1
    (∀ t, ReturnsFromEnsureReady s t →
      exec (.motor port) s = .next
        { t with
          status.clamped := t.status.clamped || (mapMotorSpeed s.snap.a0.toInt).2
          bus := { breq := true, kind := .write4, reg := channelReg first, data := frame 0 |m| }
          seq := .run .chanFirst }) ∧
    (s.resumesAt .chanFirst →
      exec (.motor port) s = .next
        { s with
          bus := { breq := true, kind := .write4, reg := channelReg second, data := 0x00000000 }
          seq := .run .chanSecond }) ∧
    (s.resumesAt .chanSecond →
      exec (.motor port) s = .next
        { s with
          result0 := BitVec.ofInt 32 m
          seq := .idle, status.busy := false, status.done := true })

/-- R144, R320: SET_CHANNEL on a valid channel with READY = 1, from its first SEQ cycle to completion, for every latency L of its
write: it takes 2 + L cycles, and in the model's own record of acknowledged writes (log entry 4) the four external bytes at
0x06 + 4*ch hold the little-endian clamped ticks, every other external byte as before. -/
def Obligations.SetChannelRunsToCompletion : Prop :=
  ∀ (s : State) (ch : Int) (x0 x1 : CycleInput) (l rest : List CycleInput),
    0 ≤ ch → ch ≤ 15 → s.resumesAt .start → s.latched = .ok (.setChannel ch) → s.status.busy = true →
    s.status.ready = true → Quiet x0 → Quiet x1 → AckRun l → s.env = (x0 :: l) ++ (x1 :: rest) →
    let on2 := (clampTick s.snap.a0.toInt).1
    let off2 := (clampTick s.snap.a1.toInt).1
    let r := (0x06 + 4 * ch).toNat
    ∃ t : State, Runs (2 + l.length) s t ∧ t.isIdle ∧ t.status.done = true ∧ t.env = rest ∧
      t.result0 = BitVec.ofInt 32 on2 ∧ t.result1 = BitVec.ofInt 32 off2 ∧
      Memory.read t.chip r = some (BitVec.ofInt 8 on2) ∧ Memory.read t.chip (r + 1) = some (BitVec.ofInt 8 (on2 / 256)) ∧
      Memory.read t.chip (r + 2) = some (BitVec.ofInt 8 off2) ∧
      Memory.read t.chip (r + 3) = some (BitVec.ofInt 8 (off2 / 256)) ∧
      ∀ a : Nat, a < r ∨ r + 4 ≤ a → Memory.read t.chip a = Memory.read s.chip a

/-- The frame of the chip commands (INIT, SET_FREQ, SET_FREQ_PRESET, SET_CHANNEL, SERVO, SERVO_RANGE, MOTOR), in every SEQ cycle of
theirs: ARG, the latch, the snapshot, units U and F, TRIG_OUT, ERR, ERRCODE, NO_ECHO and OVF never change; an external byte
changes only if this cycle acknowledges a write that covers its address; LAST_PSC only if it acknowledges the PRESCALE
write; RESULT0 only in the completing cycle, RESULT1 only in that of SET_FREQ, SET_FREQ_PRESET and SET_CHANNEL. External bytes are
those of the model's own record (log entry 4). -/
def Obligations.ChipCommandsFrame : Prop :=
  ∀ (i : Instr) (s t : State), usesInit i = true ∨ (∃ ch, i = .setChannel ch) → isFreqDetect i = false →
    exec i s = .next t →
      t.arg = s.arg ∧ t.snap = s.snap ∧ t.opL = s.opL ∧ t.selL = s.selL ∧ t.trigOut = s.trigOut ∧ t.unitU = s.unitU ∧
      t.unitF = s.unitF ∧ t.rdata = s.rdata ∧ t.masks = s.masks ∧ t.env = s.env ∧ t.cycle = s.cycle ∧
      t.status.err = s.status.err ∧ t.status.errcode = s.status.errcode ∧ t.status.noEcho = s.status.noEcho ∧
      t.status.ovf = s.status.ovf ∧
      (∀ a, ¬(s.bus.breq = true ∧ s.input.back = true ∧ s.bus.reg.toNat ≤ a ∧
          a < s.bus.reg.toNat + s.bus.kind.bytes) →
        Memory.read t.chip a = Memory.read s.chip a) ∧
      (¬(s.bus.breq = true ∧ s.input.back = true ∧ s.seq = .run (.freq .prescale)) → t.lastPsc = s.lastPsc) ∧
      (t.seq ≠ .idle → t.result0 = s.result0 ∧ t.result1 = s.result1 ∧ t.status.done = s.status.done ∧
        t.status.busy = s.status.busy) ∧
      ((∃ sel, i = .init sel) → t.result0 = s.result0) ∧
      (setsFreq i = false → (∀ ch, i ≠ .setChannel ch) → t.result1 = s.result1) ∧
      (setsFreq i = false → t.status.pscOor = s.status.pscOor)

/-! ## The sensors -/

/-- R230, R231, R232: every SEQ cycle of ULTRASONIC that a run meets: the trigger's three levels and its waits, the start of
captureEcho, and an iteration of its loop: waiting for the echo or seeing it high before the deadline, its falling sample, and the
deadline with or without the echo high. UPH during the trigger pulse is log entry 13, the Wait counts are log entry 12. -/
def Obligations.UltrasonicCycles : Prop :=
  ∀ (s : State) (sel : Byte),
    (s.resumesAt .start →
      exec (.ultrasonic sel) s = .next { s with trigOut := false, unitU.uph := .trigLo, seq := .run (.trigLow 1) }) ∧
    (∀ k, s.resumesAt (.trigLow (k + 1)) → exec (.ultrasonic sel) s = .next { s with seq := .run (.trigLow k) }) ∧
    (s.resumesAt (.trigLow 0) →
      exec (.ultrasonic sel) s = .next { s with trigOut := true, unitU.uph := .trigHi, seq := .run (.trigHigh 9) }) ∧
    (∀ k, s.resumesAt (.trigHigh (k + 1)) → exec (.ultrasonic sel) s = .next { s with seq := .run (.trigHigh k) }) ∧
    (s.resumesAt (.trigHigh 0) →
      exec (.ultrasonic sel) s = .next { s with trigOut := false, seq := .run .trigFall }) ∧
    (s.resumesAt .trigFall →
      exec (.ultrasonic sel) s = .next
        { s with
          unitU := { uph := if s.input.echoIn then .high else .waitHigh, ut := 1,
                     ua := if s.input.echoIn then 0 else s.unitU.ua }
          seq := .run .echo }) ∧
    (s.resumesAt .echo → s.unitU.uph = .waitHigh → s.unitU.ut.toNat ≠ 29000 →
      exec (.ultrasonic sel) s = .next
        { s with
          unitU := { uph := if s.input.echoIn then .high else .waitHigh, ut := s.unitU.ut + 1,
                     ua := if s.input.echoIn then s.unitU.ut else s.unitU.ua } }) ∧
    (s.resumesAt .echo → s.unitU.uph = .high → s.input.echoIn = true → s.unitU.ut.toNat ≠ 29000 →
      exec (.ultrasonic sel) s = .next { s with unitU.ut := s.unitU.ut + 1 }) ∧
    (s.resumesAt .echo → s.unitU.uph = .high → s.input.echoIn = false → s.unitU.ua.toNat ≤ s.unitU.ut.toNat →
      exec (.ultrasonic sel) s = .next
        { s with
          result0 := BitVec.ofNat 32 ((s.unitU.ut.toNat - s.unitU.ua.toNat) / 58)
          result1 := BitVec.ofNat 32 (s.unitU.ut.toNat - s.unitU.ua.toNat)
          seq := .idle, status.busy := false, status.done := true }) ∧
    (s.resumesAt .echo → s.unitU.uph = .waitHigh → s.unitU.ut.toNat = 29000 →
      exec (.ultrasonic sel) s = .next
        { s with
          unitU := { uph := if s.input.echoIn then .high else .waitHigh, ut := s.unitU.ut,
                     ua := if s.input.echoIn then s.unitU.ut else s.unitU.ua }
          result0 := 0, result1 := 0
          seq := .idle, status.busy := false, status.done := true, status.noEcho := true }) ∧
    (s.resumesAt .echo → s.unitU.uph = .high → s.input.echoIn = true → s.unitU.ut.toNat = 29000 →
      exec (.ultrasonic sel) s = .next
        { s with
          result0 := 0, result1 := 0
          seq := .idle, status.busy := false, status.done := true, status.noEcho := true })

/-- R231, R230: TRIG_OUT, from ULTRASONIC's first SEQ cycle n+1 on: 0 in cycles n+2, n+3; 1 in n+4..n+13; 0 again in n+14 = t0, in
which captureEcho starts. After `k` cycles the block stands at the beginning of cycle n+1+k. -/
def Obligations.TriggerPulse : Prop :=
  ∀ (s : State) (sel : Byte), s.resumesAt .start → s.latched = .ok (.ultrasonic sel) → s.status.busy = true →
    13 ≤ s.env.length → (∀ x ∈ s.env.take 13, Quiet x) →
    (∀ k, 1 ≤ k → k ≤ 13 → ∃ t, Runs k s t ∧ t.trigOut = decide (3 ≤ k ∧ k ≤ 12) ∧ t.status.busy = true ∧ t.bus = s.bus) ∧
    ∃ t, Runs 13 s t ∧ t.resumesAt .trigFall ∧ t.env = s.env.drop 13

/-- R232, R233: an echo that is low for `a` samples from t0 on, high for `w ≥ 1`, and low again by the deadline gives W = w in
RESULT1 and w div 58 in RESULT0, completing in the falling sample's cycle t0 + a + w, NO_ECHO unchanged. -/
def Obligations.EchoWidthCaptured : Prop :=
  ∀ (s : State) (sel : Byte) (lows highs rest : List CycleInput) (z : CycleInput),
    s.resumesAt .trigFall → s.latched = .ok (.ultrasonic sel) → s.status.busy = true →
    (∀ x ∈ lows, Quiet x ∧ x.echoIn = false) → (∀ x ∈ highs, Quiet x ∧ x.echoIn = true) →
    Quiet z → z.echoIn = false → 1 ≤ highs.length → lows.length + highs.length ≤ 29000 →
    s.env = lows ++ (highs ++ (z :: rest)) →
    ∃ t, Runs (lows.length + highs.length + 1) s t ∧ t.isIdle ∧ t.status.done = true ∧
      t.status.noEcho = s.status.noEcho ∧ t.env = rest ∧
      t.result1 = BitVec.ofNat 32 highs.length ∧ t.result0 = BitVec.ofNat 32 (highs.length / 58)

/-- R232, R234: an echo that is low for `a` samples from t0 on and high in all later samples up to t0 + 29000 (`a` = 29001: never
high) times out in cycle t0 + 29000 with NO_ECHO = 1 and both results 0. -/
def Obligations.EchoTimesOut : Prop :=
  ∀ (s : State) (sel : Byte) (lows highs rest : List CycleInput),
    s.resumesAt .trigFall → s.latched = .ok (.ultrasonic sel) → s.status.busy = true →
    (∀ x ∈ lows, Quiet x ∧ x.echoIn = false) → (∀ x ∈ highs, Quiet x ∧ x.echoIn = true) →
    lows.length + highs.length = 29001 → s.env = lows ++ (highs ++ rest) →
    ∃ t, Runs 29001 s t ∧ t.isIdle ∧ t.status.done = true ∧ t.status.noEcho = true ∧ t.env = rest ∧
      t.result0 = 0 ∧ t.result1 = 0

/-- R240, R244, R245, R241, R242: the SEQ cycles of FREQ_DETECT's own pseudocode: the drive on a valid channel (on = 0,
off = 4095), CH_IGN and no request on an invalid one, the loop's start, a cycle between samples, a sample inside a window, the end
of the first window with BUSY still 1, and the last sample, which completes. FPH's value in each cycle is log entry 15. The cycles
inside ensureReady and the handshakes are EnsureReadyRunsFirst's, FrequencySequenceOrder's and BusHandshake's. -/
def Obligations.FreqDetectCycles : Prop :=
  ∀ (s : State) (ch : Int),
    (∀ t, 0 ≤ ch → ch ≤ 15 → ReturnsFromEnsureReady s t →
      exec (.freqDetect ch) s = .next
        { t with
          bus := { breq := true, kind := .write4, reg := channelReg ch, data := 0x0FFF0000 }
          seq := .run .chanFirst }) ∧
    ((ch < 0 ∨ 15 < ch) → s.resumesAt .start →
      exec (.freqDetect ch) s = .next
        { s with
          status.chIgn := true, unitF := { fk := 0, fph := 0, ec := 0, prev := none }, seq := .run .sample }) ∧
    (0 ≤ ch → ch ≤ 15 → s.resumesAt .chanFirst →
      exec (.freqDetect ch) s = .next
        { s with unitF := { fk := 0, fph := 0, ec := 0, prev := none }, seq := .run .sample }) ∧
    (s.resumesAt .sample → s.unitF.fph.toNat < 999 →
      exec (.freqDetect ch) s = .next { s with unitF.fph := s.unitF.fph + 1 }) ∧
    (s.resumesAt .sample → s.unitF.fph.toNat = 999 →
      let ec2 := if s.unitF.prev = some false ∧ s.input.freqIn = true then s.unitF.ec + 1 else s.unitF.ec
      let corr := (ec2.toNat : Int) - 2
      (s.unitF.fk.toNat < 1999 → s.unitF.fk.toNat ≠ 999 →
        exec (.freqDetect ch) s = .next
          { s with unitF := { fk := s.unitF.fk + 1, fph := 0, ec := ec2, prev := some s.input.freqIn } }) ∧
      (s.unitF.fk.toNat = 999 →
        exec (.freqDetect ch) s = .next
          { s with
            unitF := { fk := 1000, fph := 0, ec := 0, prev := some s.input.freqIn }
            result0 := BitVec.ofInt 32 (classify corr), result1 := BitVec.ofInt 32 corr }) ∧
      (s.unitF.fk.toNat = 1999 →
        exec (.freqDetect ch) s = .next
          { s with
            unitF := { fk := 2000, fph := 0, ec := 0, prev := some s.input.freqIn }
            result0 := BitVec.ofInt 32 (classify corr), result1 := BitVec.ofInt 32 corr
            seq := .idle, status.busy := false, status.done := true }))

/-- R240 to R245: FREQ_DETECT from c0 (the loop has just started), for any 2000 samples `vs` of FREQ_IN taken 1000 cycles apart: it
completes 2,000,000 cycles later with the label and the corrected count of the second window's edges, the previous sample
carried over from the first; at the end of the first window its label stands in RESULT0 while BUSY = 1. FPH = 0 at c0 is log entry
15. -/
def Obligations.FrequencyCountedOverTwoWindows : Prop :=
  ∀ (s : State) (ch : Int) (v1 v2 : List Bool) (c1 c2 : List (List CycleInput)) (rest : List CycleInput),
    s.resumesAt .sample → s.unitF = { fk := 0, fph := 0, ec := 0, prev := none } →
    s.latched = .ok (.freqDetect ch) → s.status.busy = true →
    v1.length = 1000 → v2.length = 1000 → List.Forall₂ SamplePeriod v1 c1 → List.Forall₂ SamplePeriod v2 c2 →
    s.env = c1.flatten ++ (c2.flatten ++ rest) →
    let e1 : Int := edges none v1
    let e2 : Int := edges v1.getLast? v2
    (∃ t, Runs 1000000 s t ∧ t.status.busy = true ∧ t.result0 = BitVec.ofInt 32 (classify (e1 - 2)) ∧
      t.result1 = BitVec.ofInt 32 (e1 - 2)) ∧
    ∃ t, Runs 2000000 s t ∧ t.isIdle ∧ t.status.done = true ∧ t.env = rest ∧
      t.result0 = BitVec.ofInt 32 (classify (e2 - 2)) ∧ t.result1 = BitVec.ofInt 32 (e2 - 2) ∧
      t.status.clamped = s.status.clamped ∧ t.bus = s.bus

/-- The frame of the sensor commands, in every SEQ cycle of theirs: ARG, the latch, the snapshot, ERR, ERRCODE, PSC_OOR, OVF and the
other sensor unit never change; ULTRASONIC changes nothing of unit P, the port, LAST_PSC, READY or the external bytes while no
request is outstanding; FREQ_DETECT never drives TRIG_OUT, and an external byte changes only when a write that covers it is
acknowledged. External bytes are those of the model's own record (log entry 4). -/
def Obligations.SensorCommandsFrame : Prop :=
  ∀ (s t : State) (i : Instr), isUltrasonic i = true ∨ isFreqDetect i = true → exec i s = .next t →
    t.arg = s.arg ∧ t.snap = s.snap ∧ t.opL = s.opL ∧ t.selL = s.selL ∧ t.rdata = s.rdata ∧ t.masks = s.masks ∧
    t.env = s.env ∧ t.cycle = s.cycle ∧ t.status.err = s.status.err ∧ t.status.errcode = s.status.errcode ∧
    t.status.ovf = s.status.ovf ∧ t.status.pscOor = s.status.pscOor ∧ t.status.clamped = s.status.clamped ∧
    (isUltrasonic i = true → t.unitF = s.unitF ∧ t.status.ready = s.status.ready ∧ t.status.chIgn = s.status.chIgn ∧
      (s.bus.breq = false → t.unitP = s.unitP ∧ t.bus = s.bus ∧ t.lastPsc = s.lastPsc ∧
        ∀ a, Memory.read t.chip a = Memory.read s.chip a)) ∧
    (isFreqDetect i = true → t.unitU = s.unitU ∧ t.trigOut = s.trigOut ∧ t.status.noEcho = s.status.noEcho ∧
      ∀ a, ¬(s.bus.breq = true ∧ s.input.back = true ∧ s.bus.reg.toNat ≤ a ∧
          a < s.bus.reg.toNat + s.bus.kind.bytes) →
        Memory.read t.chip a = Memory.read s.chip a)

/-! ## The whole machine -/

/-- The state after reset meets the invariant. -/
def Obligations.ResetMeetsTheInvariant : Prop := Inv State.reset

/-- Every cycle, whatever the environment does in it, keeps the invariant: SEQ_STATE and BUSY agree, a running command stands at a
position of its own pseudocode with valid operands, READY is 1 before any register write outside ensureReady (R131), the
counters stay in their ranges, and the port and the record of writes stay in the chip map.
The record of writes is log entry 4, SETTLE's and FPH's ranges log entries 14 and 15. -/
def Obligations.StepKeepsTheInvariant : Prop :=
  ∀ s t : State, Inv s → step s = .next t → Inv t

/-- R270: the block never traps: from a state that meets the invariant every cycle has a next state, whatever the environment
does. -/
def Obligations.StepNeverStops : Prop := ∀ s : State, Inv s → Safe s

/-- R43, R39: READY never returns to 0 except by RST. -/
def Obligations.ReadyIsOneWay : Prop :=
  ∀ s t : State, s.input.rst = false → s.status.ready = true → step s = .next t → t.status.ready = true

/-- R82, R33, R39: BUSY falls only when the command completes: then DONE = 1 and SEQ_STATE = IDLE at the end of the same cycle. -/
def Obligations.BusyFallsOnlyAtCompletion : Prop :=
  ∀ s t : State, s.input.rst = false → s.status.busy = true → step s = .next t → t.status.busy = false →
    t.status.done = true ∧ t.seq = .idle

/-- R32, R41, R43, R46: while no command runs, RESULT0, RESULT1, LAST_PSC, READY, TRIG_OUT and BREQ keep their values in every cycle
without RST, the cycle of an acceptance included. That BKIND, BREG and BDATA, the hidden state of units P, U and F (R48 to R50) and
the external record keep theirs is the model's choice (log entries 11, 13 and 4). -/
def Obligations.IdleBlockKeepsResults : Prop :=
  ∀ s t : State, s.input.rst = false → s.seq = .idle → step s = .next t →
    t.result0 = s.result0 ∧ t.result1 = s.result1 ∧ t.lastPsc = s.lastPsc ∧ t.trigOut = s.trigOut ∧ t.bus = s.bus ∧
    t.chip = s.chip ∧ t.unitP = s.unitP ∧ t.unitU = s.unitU ∧ t.unitF = s.unitF ∧ t.status.ready = s.status.ready
end

