-- ==== Sys2Proof/Laws/Encoding.lean ====
section
/-! SUPPORT. The fields of a command word, as numbers and as words. -/

namespace Sys2Proof

theorem commandWord_toNat (op sel : Byte) : (commandWord op sel).toNat = sel.toNat * 256 + op.toNat := by
  have h := op.isLt
  simp only [commandWord, BitVec.toNat_append, BitVec.toNat_ofNat]
  rw [← Nat.shiftLeft_add_eq_or_of_lt (by simpa using h), ← Nat.shiftLeft_add_eq_or_of_lt (by simpa using sel.isLt)]
  simp [Nat.shiftLeft_eq]

theorem opField_toNat (w : Word) : (opField w).toNat = w.toNat % 256 := by
  simp [opField, BitVec.extractLsb'_toNat]

theorem selField_toNat (w : Word) : (selField w).toNat = w.toNat / 256 % 256 := by
  simp [selField, BitVec.extractLsb'_toNat, Nat.shiftRight_eq_div_pow]

theorem rsvField_toNat (w : Word) : (rsvField w).toNat = w.toNat / 65536 := by
  have h := w.isLt
  simp [rsvField, BitVec.extractLsb'_toNat, Nat.shiftRight_eq_div_pow]
  omega

@[simp] theorem opField_commandWord (op sel : Byte) : opField (commandWord op sel) = op := by
  have h1 := op.isLt
  have h2 := sel.isLt
  apply BitVec.eq_of_toNat_eq
  rw [opField_toNat, commandWord_toNat]
  omega

@[simp] theorem selField_commandWord (op sel : Byte) : selField (commandWord op sel) = sel := by
  have h1 := op.isLt
  have h2 := sel.isLt
  apply BitVec.eq_of_toNat_eq
  rw [selField_toNat, commandWord_toNat]
  omega

@[simp] theorem rsvField_commandWord (op sel : Byte) : rsvField (commandWord op sel) = 0 := by
  have h1 := op.isLt
  have h2 := sel.isLt
  apply BitVec.eq_of_toNat_eq
  rw [rsvField_toNat, commandWord_toNat]
  simp
  omega

/-- A word with RSV = 0 is made of its OP and SEL. -/
theorem commandWord_fields {w : Word} (h : rsvField w = 0) : commandWord (opField w) (selField w) = w := by
  have h' := congrArg BitVec.toNat h
  rw [rsvField_toNat] at h'
  apply BitVec.eq_of_toNat_eq
  rw [commandWord_toNat, opField_toNat, selField_toNat]
  simp at h'
  omega

/-- The selector byte of an encodable channel reads back as the channel. -/
theorem toInt_ofInt_channel {c : Int} (h : channelEncodable c = true) : (BitVec.ofInt 8 c).toInt = c := by
  simp only [channelEncodable, Bool.and_eq_true, decide_eq_true_eq] at h
  rw [BitVec.toInt_ofInt]
  simp [Int.bmod]
  omega

/-- Every selector byte, read as a channel, is encodable. -/
theorem channelEncodable_toInt (b : Byte) : channelEncodable b.toInt = true := by
  have h1 := BitVec.le_toInt b
  have h2 := BitVec.toInt_lt (x := b)
  simp only [channelEncodable, Bool.and_eq_true, decide_eq_true_eq]
  omega

/-- An opcode is one of the fourteen assigned ones, or 0x0E or more. -/
theorem opcode_cases (op : Byte) :
    14 ≤ op.toNat ∨ op = 0x00 ∨ op = 0x01 ∨ op = 0x02 ∨ op = 0x03 ∨ op = 0x04 ∨ op = 0x05 ∨ op = 0x06 ∨ op = 0x07 ∨
      op = 0x08 ∨ op = 0x09 ∨ op = 0x0A ∨ op = 0x0B ∨ op = 0x0C ∨ op = 0x0D := by
  revert op; decide

/-- Every opcode from 0x0E on is illegal, whatever the selector (R106). -/
theorem decodeFields_illegal {op : Byte} (sel : Byte) (h : 14 ≤ op.toNat) :
    decodeFields op sel = .error .illegalOp := by
  have ne : ∀ k : Byte, k.toNat < 14 → op ≠ k := by rintro k hk rfl; omega
  simp only [decodeFields]
  rw [if_neg (ne _ (by decide)), if_neg (ne _ (by decide)), if_neg (ne _ (by decide)), if_neg (ne _ (by decide)),
    if_neg (ne _ (by decide)), if_neg (ne _ (by decide)), if_neg (ne _ (by decide)), if_neg (ne _ (by decide)),
    if_neg (ne _ (by decide)), if_neg (ne _ (by decide)), if_neg (ne _ (by decide)), if_neg (ne _ (by decide)),
    if_neg (ne _ (by decide)), if_neg (ne _ (by decide))]

/-- A selector is a motor port exactly when it is at most 3 (R102). -/
theorem decodePort_cases (b : Byte) :
    (3 < b.toNat ∧ decodePort b = .error .badSelector) ∨ (b.toNat ≤ 3 ∧ ∃ p, decodePort b = .ok p ∧ p.sel = b) := by
  simp only [decodePort]
  split
  · exact .inr ⟨by simp [*], .p0, rfl, by simp [MotorPort.sel, *]⟩
  · split
    · exact .inr ⟨by simp [*], .p1, rfl, by simp [MotorPort.sel, *]⟩
    · split
      · exact .inr ⟨by simp [*], .p2, rfl, by simp [MotorPort.sel, *]⟩
      · split
        · exact .inr ⟨by simp [*], .p3, rfl, by simp [MotorPort.sel, *]⟩
        · left; refine ⟨?_, rfl⟩; bv_omega

/-- A selector is a preset exactly when it is at most 5 (R102, R205). -/
theorem decodePreset_cases (b : Byte) :
    (5 < b.toNat ∧ decodePreset b = .error .badSelector) ∨
      (b.toNat ≤ 5 ∧ ∃ p, decodePreset b = .ok p ∧ p.sel = b) := by
  simp only [decodePreset]
  split
  · exact .inr ⟨by simp [*], .a, rfl, by simp [Preset.sel, *]⟩
  · split
    · exact .inr ⟨by simp [*], .b, rfl, by simp [Preset.sel, *]⟩
    · split
      · exact .inr ⟨by simp [*], .c, rfl, by simp [Preset.sel, *]⟩
      · split
        · exact .inr ⟨by simp [*], .d, rfl, by simp [Preset.sel, *]⟩
        · split
          · exact .inr ⟨by simp [*], .e, rfl, by simp [Preset.sel, *]⟩
          · split
            · exact .inr ⟨by simp [*], .f, rfl, by simp [Preset.sel, *]⟩
            · left; refine ⟨?_, rfl⟩; bv_omega

end Sys2Proof
end

