-- ==== Sys2Proof/Laws/Memory.lean ====
section
/-! SUPPORT. The record of external writes: reading after writing, and the canonical form. -/

namespace Sys2Proof.Machine

/-- Reading the written address gives the byte; every other address reads as before. -/
theorem Memory.read_write (m : Memory) (x : Nat) (v : Byte) (y : Nat) :
    (Memory.write m x v).read y = if y = x then some v else Memory.read m y := by
  induction m with
  | nil => by_cases h : y = x <;> simp [Memory.write, Memory.read, h, Ne.symm]
  | cons c rest ih =>
    obtain ⟨a, b⟩ := c
    by_cases hy : y = x
    · subst hy
      simp only [Memory.write]
      split
      · simp [Memory.read]
      · split
        · simp [Memory.read, *]
        · simp only [Memory.read, ih]; simp [Ne.symm ‹¬y = a›]
    · simp only [Memory.write]
      split
      · simp [Memory.read, Ne.symm hy]
      · split
        · subst_vars; simp [Memory.read, Ne.symm hy]
        · simp [Memory.read, ih, hy]

/-- A write adds no address but its own. -/
theorem Memory.mem_write {m : Memory} {x : Nat} {v : Byte} {c : Host.Cell} (h : c ∈ Memory.write m x v) :
    c = (x, v) ∨ c ∈ m := by
  induction m with
  | nil => simpa [Memory.write] using h
  | cons d rest ih =>
    obtain ⟨a, b⟩ := d
    simp only [Memory.write] at h
    split at h
    · simpa using h
    · split at h
      · subst_vars
        rcases List.mem_cons.1 h with h | h
        · exact .inl h
        · exact .inr (List.mem_cons_of_mem _ h)
      · rcases List.mem_cons.1 h with h | h
        · exact .inr (h ▸ List.mem_cons_self)
        · exact (ih h).imp id (List.mem_cons_of_mem _)

/-- The canonical form, as a fact about a list with a head: the rest is canonical and above the head. -/
theorem Memory.wf_cons (a : Nat) (b : Byte) (rest : Memory) :
    Memory.wf ((a, b) :: rest) = true ↔ Memory.wf rest = true ∧ ∀ c ∈ rest.head?, a < c.1 := by
  cases rest with
  | nil => simp [Memory.wf]
  | cons d r => obtain ⟨e, f⟩ := d; simp [Memory.wf, and_comm]

/-- Every write keeps the canonical form. -/
theorem Memory.wf_write {m : Memory} (x : Nat) (v : Byte) (h : Memory.wf m = true) :
    (Memory.write m x v).wf = true := by
  induction m with
  | nil => rfl
  | cons d rest ih =>
    obtain ⟨a, b⟩ := d
    obtain ⟨hr, hh⟩ := (Memory.wf_cons a b rest).1 h
    simp only [Memory.write]
    split
    · exact (Memory.wf_cons ..).2 ⟨h, by simpa using ‹x < a›⟩
    · split
      · exact (Memory.wf_cons ..).2 ⟨hr, hh⟩
      · refine (Memory.wf_cons ..).2 ⟨ih hr, ?_⟩
        cases rest with
        | nil => simp only [Memory.write, List.head?_cons, Option.mem_def, Option.some.injEq]; rintro c rfl; simp; omega
        | cons e r =>
          obtain ⟨f, g⟩ := e
          have hf : a < f := hh (f, g) (by simp)
          simp only [Memory.write]
          split
          · simp only [List.head?_cons, Option.mem_def, Option.some.injEq]; rintro c rfl; simp; omega
          · split <;> (simp only [List.head?_cons, Option.mem_def, Option.some.injEq]; rintro c rfl; simpa using hf)

/-- `n` bytes written from `r` on: those addresses read the bytes of the data, every other address as before. -/
theorem Memory.read_writeBytes (m : Memory) (r : Nat) (d : Word) (n y : Nat) :
    (Memory.writeBytes m r d n).read y =
      if r ≤ y ∧ y < r + n then some (busByte d (y - r)) else Memory.read m y := by
  induction n with
  | zero => simp [Memory.writeBytes]
  | succ n ih =>
    simp only [Memory.writeBytes, Memory.read_write, ih]
    by_cases h : y = r + n
    · subst h; simp
    · have : (r ≤ y ∧ y < r + (n + 1)) ↔ (r ≤ y ∧ y < r + n) := by omega
      simp [h, this]

/-- Writing bytes keeps the canonical form. -/
theorem Memory.wf_writeBytes {m : Memory} (r : Nat) (d : Word) (n : Nat) (h : Memory.wf m = true) :
    (Memory.writeBytes m r d n).wf = true := by
  induction n with
  | zero => exact h
  | succ n ih => exact Memory.wf_write _ _ ih

/-- Writing bytes adds no address outside the written range. -/
theorem Memory.mem_writeBytes {m : Memory} {r : Nat} {d : Word} {n : Nat} {c : Host.Cell}
    (h : c ∈ Memory.writeBytes m r d n) : (r ≤ c.1 ∧ c.1 < r + n) ∨ c ∈ m := by
  induction n with
  | zero => exact .inr h
  | succ n ih =>
    rcases Memory.mem_write h with rfl | h
    · left; simp
    · exact (ih h).imp (fun h => by omega) id

/-- The record after reset is canonical. -/
theorem Memory.wf_reset : Memory.wf State.reset.chip = true := rfl

end Sys2Proof.Machine
end

