-- ==== Sys2Proof/Laws/State.lean ====
section
/-! SUPPORT. What each named update of the state does to each field: one lemma per field per update, true by rfl. -/

namespace Sys2Proof.Machine

variable (s : State)

/-! ## tick -/

@[simp] theorem State.tick_arg : s.tick.arg = s.arg := rfl
@[simp] theorem State.tick_result0 : s.tick.result0 = s.result0 := rfl
@[simp] theorem State.tick_result1 : s.tick.result1 = s.result1 := rfl
@[simp] theorem State.tick_status : s.tick.status = s.status := rfl
@[simp] theorem State.tick_lastPsc : s.tick.lastPsc = s.lastPsc := rfl
@[simp] theorem State.tick_opL : s.tick.opL = s.opL := rfl
@[simp] theorem State.tick_selL : s.tick.selL = s.selL := rfl
@[simp] theorem State.tick_snap : s.tick.snap = s.snap := rfl
@[simp] theorem State.tick_seq : s.tick.seq = s.seq := rfl
@[simp] theorem State.tick_bus : s.tick.bus = s.bus := rfl
@[simp] theorem State.tick_trigOut : s.tick.trigOut = s.trigOut := rfl
@[simp] theorem State.tick_unitP : s.tick.unitP = s.unitP := rfl
@[simp] theorem State.tick_unitU : s.tick.unitU = s.unitU := rfl
@[simp] theorem State.tick_unitF : s.tick.unitF = s.unitF := rfl
@[simp] theorem State.tick_rdata : s.tick.rdata = s.rdata := rfl
@[simp] theorem State.tick_chip : s.tick.chip = s.chip := rfl
@[simp] theorem State.tick_masks : s.tick.masks = s.masks := rfl
@[simp] theorem State.tick_env : s.tick.env = s.env.tail := rfl
@[simp] theorem State.tick_cycle : s.tick.cycle = s.cycle + 1 := rfl

/-! ## raisePscOor -/

@[simp] theorem State.raisePscOor_arg (c : Bool) : (s.raisePscOor c).arg = s.arg := rfl
@[simp] theorem State.raisePscOor_result0 (c : Bool) : (s.raisePscOor c).result0 = s.result0 := rfl
@[simp] theorem State.raisePscOor_result1 (c : Bool) : (s.raisePscOor c).result1 = s.result1 := rfl
@[simp] theorem State.raisePscOor_status (c : Bool) :
    (s.raisePscOor c).status = { s.status with pscOor := s.status.pscOor || c } := rfl
@[simp] theorem State.raisePscOor_lastPsc (c : Bool) : (s.raisePscOor c).lastPsc = s.lastPsc := rfl
@[simp] theorem State.raisePscOor_opL (c : Bool) : (s.raisePscOor c).opL = s.opL := rfl
@[simp] theorem State.raisePscOor_selL (c : Bool) : (s.raisePscOor c).selL = s.selL := rfl
@[simp] theorem State.raisePscOor_snap (c : Bool) : (s.raisePscOor c).snap = s.snap := rfl
@[simp] theorem State.raisePscOor_seq (c : Bool) : (s.raisePscOor c).seq = s.seq := rfl
@[simp] theorem State.raisePscOor_bus (c : Bool) : (s.raisePscOor c).bus = s.bus := rfl
@[simp] theorem State.raisePscOor_trigOut (c : Bool) : (s.raisePscOor c).trigOut = s.trigOut := rfl
@[simp] theorem State.raisePscOor_unitP (c : Bool) : (s.raisePscOor c).unitP = s.unitP := rfl
@[simp] theorem State.raisePscOor_unitU (c : Bool) : (s.raisePscOor c).unitU = s.unitU := rfl
@[simp] theorem State.raisePscOor_unitF (c : Bool) : (s.raisePscOor c).unitF = s.unitF := rfl
@[simp] theorem State.raisePscOor_rdata (c : Bool) : (s.raisePscOor c).rdata = s.rdata := rfl
@[simp] theorem State.raisePscOor_chip (c : Bool) : (s.raisePscOor c).chip = s.chip := rfl
@[simp] theorem State.raisePscOor_masks (c : Bool) : (s.raisePscOor c).masks = s.masks := rfl
@[simp] theorem State.raisePscOor_env (c : Bool) : (s.raisePscOor c).env = s.env := rfl
@[simp] theorem State.raisePscOor_cycle (c : Bool) : (s.raisePscOor c).cycle = s.cycle := rfl
@[simp] theorem State.raisePscOor_input (c : Bool) : (s.raisePscOor c).input = s.input := rfl

/-! ## raiseChIgn -/

@[simp] theorem State.raiseChIgn_arg (c : Bool) : (s.raiseChIgn c).arg = s.arg := rfl
@[simp] theorem State.raiseChIgn_result0 (c : Bool) : (s.raiseChIgn c).result0 = s.result0 := rfl
@[simp] theorem State.raiseChIgn_result1 (c : Bool) : (s.raiseChIgn c).result1 = s.result1 := rfl
@[simp] theorem State.raiseChIgn_status (c : Bool) :
    (s.raiseChIgn c).status = { s.status with chIgn := s.status.chIgn || c } := rfl
@[simp] theorem State.raiseChIgn_lastPsc (c : Bool) : (s.raiseChIgn c).lastPsc = s.lastPsc := rfl
@[simp] theorem State.raiseChIgn_opL (c : Bool) : (s.raiseChIgn c).opL = s.opL := rfl
@[simp] theorem State.raiseChIgn_selL (c : Bool) : (s.raiseChIgn c).selL = s.selL := rfl
@[simp] theorem State.raiseChIgn_snap (c : Bool) : (s.raiseChIgn c).snap = s.snap := rfl
@[simp] theorem State.raiseChIgn_seq (c : Bool) : (s.raiseChIgn c).seq = s.seq := rfl
@[simp] theorem State.raiseChIgn_bus (c : Bool) : (s.raiseChIgn c).bus = s.bus := rfl
@[simp] theorem State.raiseChIgn_trigOut (c : Bool) : (s.raiseChIgn c).trigOut = s.trigOut := rfl
@[simp] theorem State.raiseChIgn_unitP (c : Bool) : (s.raiseChIgn c).unitP = s.unitP := rfl
@[simp] theorem State.raiseChIgn_unitU (c : Bool) : (s.raiseChIgn c).unitU = s.unitU := rfl
@[simp] theorem State.raiseChIgn_unitF (c : Bool) : (s.raiseChIgn c).unitF = s.unitF := rfl
@[simp] theorem State.raiseChIgn_rdata (c : Bool) : (s.raiseChIgn c).rdata = s.rdata := rfl
@[simp] theorem State.raiseChIgn_chip (c : Bool) : (s.raiseChIgn c).chip = s.chip := rfl
@[simp] theorem State.raiseChIgn_masks (c : Bool) : (s.raiseChIgn c).masks = s.masks := rfl
@[simp] theorem State.raiseChIgn_env (c : Bool) : (s.raiseChIgn c).env = s.env := rfl
@[simp] theorem State.raiseChIgn_cycle (c : Bool) : (s.raiseChIgn c).cycle = s.cycle := rfl
@[simp] theorem State.raiseChIgn_input (c : Bool) : (s.raiseChIgn c).input = s.input := rfl

/-! ## raiseNoEcho -/

@[simp] theorem State.raiseNoEcho_arg (c : Bool) : (s.raiseNoEcho c).arg = s.arg := rfl
@[simp] theorem State.raiseNoEcho_result0 (c : Bool) : (s.raiseNoEcho c).result0 = s.result0 := rfl
@[simp] theorem State.raiseNoEcho_result1 (c : Bool) : (s.raiseNoEcho c).result1 = s.result1 := rfl
@[simp] theorem State.raiseNoEcho_status (c : Bool) :
    (s.raiseNoEcho c).status = { s.status with noEcho := s.status.noEcho || c } := rfl
@[simp] theorem State.raiseNoEcho_lastPsc (c : Bool) : (s.raiseNoEcho c).lastPsc = s.lastPsc := rfl
@[simp] theorem State.raiseNoEcho_opL (c : Bool) : (s.raiseNoEcho c).opL = s.opL := rfl
@[simp] theorem State.raiseNoEcho_selL (c : Bool) : (s.raiseNoEcho c).selL = s.selL := rfl
@[simp] theorem State.raiseNoEcho_snap (c : Bool) : (s.raiseNoEcho c).snap = s.snap := rfl
@[simp] theorem State.raiseNoEcho_seq (c : Bool) : (s.raiseNoEcho c).seq = s.seq := rfl
@[simp] theorem State.raiseNoEcho_bus (c : Bool) : (s.raiseNoEcho c).bus = s.bus := rfl
@[simp] theorem State.raiseNoEcho_trigOut (c : Bool) : (s.raiseNoEcho c).trigOut = s.trigOut := rfl
@[simp] theorem State.raiseNoEcho_unitP (c : Bool) : (s.raiseNoEcho c).unitP = s.unitP := rfl
@[simp] theorem State.raiseNoEcho_unitU (c : Bool) : (s.raiseNoEcho c).unitU = s.unitU := rfl
@[simp] theorem State.raiseNoEcho_unitF (c : Bool) : (s.raiseNoEcho c).unitF = s.unitF := rfl
@[simp] theorem State.raiseNoEcho_rdata (c : Bool) : (s.raiseNoEcho c).rdata = s.rdata := rfl
@[simp] theorem State.raiseNoEcho_chip (c : Bool) : (s.raiseNoEcho c).chip = s.chip := rfl
@[simp] theorem State.raiseNoEcho_masks (c : Bool) : (s.raiseNoEcho c).masks = s.masks := rfl
@[simp] theorem State.raiseNoEcho_env (c : Bool) : (s.raiseNoEcho c).env = s.env := rfl
@[simp] theorem State.raiseNoEcho_cycle (c : Bool) : (s.raiseNoEcho c).cycle = s.cycle := rfl
@[simp] theorem State.raiseNoEcho_input (c : Bool) : (s.raiseNoEcho c).input = s.input := rfl

/-! ## raiseClamped -/

@[simp] theorem State.raiseClamped_arg (c : Bool) : (s.raiseClamped c).arg = s.arg := rfl
@[simp] theorem State.raiseClamped_result0 (c : Bool) : (s.raiseClamped c).result0 = s.result0 := rfl
@[simp] theorem State.raiseClamped_result1 (c : Bool) : (s.raiseClamped c).result1 = s.result1 := rfl
@[simp] theorem State.raiseClamped_status (c : Bool) :
    (s.raiseClamped c).status = { s.status with clamped := s.status.clamped || c } := rfl
@[simp] theorem State.raiseClamped_lastPsc (c : Bool) : (s.raiseClamped c).lastPsc = s.lastPsc := rfl
@[simp] theorem State.raiseClamped_opL (c : Bool) : (s.raiseClamped c).opL = s.opL := rfl
@[simp] theorem State.raiseClamped_selL (c : Bool) : (s.raiseClamped c).selL = s.selL := rfl
@[simp] theorem State.raiseClamped_snap (c : Bool) : (s.raiseClamped c).snap = s.snap := rfl
@[simp] theorem State.raiseClamped_seq (c : Bool) : (s.raiseClamped c).seq = s.seq := rfl
@[simp] theorem State.raiseClamped_bus (c : Bool) : (s.raiseClamped c).bus = s.bus := rfl
@[simp] theorem State.raiseClamped_trigOut (c : Bool) : (s.raiseClamped c).trigOut = s.trigOut := rfl
@[simp] theorem State.raiseClamped_unitP (c : Bool) : (s.raiseClamped c).unitP = s.unitP := rfl
@[simp] theorem State.raiseClamped_unitU (c : Bool) : (s.raiseClamped c).unitU = s.unitU := rfl
@[simp] theorem State.raiseClamped_unitF (c : Bool) : (s.raiseClamped c).unitF = s.unitF := rfl
@[simp] theorem State.raiseClamped_rdata (c : Bool) : (s.raiseClamped c).rdata = s.rdata := rfl
@[simp] theorem State.raiseClamped_chip (c : Bool) : (s.raiseClamped c).chip = s.chip := rfl
@[simp] theorem State.raiseClamped_masks (c : Bool) : (s.raiseClamped c).masks = s.masks := rfl
@[simp] theorem State.raiseClamped_env (c : Bool) : (s.raiseClamped c).env = s.env := rfl
@[simp] theorem State.raiseClamped_cycle (c : Bool) : (s.raiseClamped c).cycle = s.cycle := rfl
@[simp] theorem State.raiseClamped_input (c : Bool) : (s.raiseClamped c).input = s.input := rfl

/-! ## raiseOvf -/

@[simp] theorem State.raiseOvf_arg (c : Bool) : (s.raiseOvf c).arg = s.arg := rfl
@[simp] theorem State.raiseOvf_result0 (c : Bool) : (s.raiseOvf c).result0 = s.result0 := rfl
@[simp] theorem State.raiseOvf_result1 (c : Bool) : (s.raiseOvf c).result1 = s.result1 := rfl
@[simp] theorem State.raiseOvf_status (c : Bool) :
    (s.raiseOvf c).status = { s.status with ovf := s.status.ovf || c } := rfl
@[simp] theorem State.raiseOvf_lastPsc (c : Bool) : (s.raiseOvf c).lastPsc = s.lastPsc := rfl
@[simp] theorem State.raiseOvf_opL (c : Bool) : (s.raiseOvf c).opL = s.opL := rfl
@[simp] theorem State.raiseOvf_selL (c : Bool) : (s.raiseOvf c).selL = s.selL := rfl
@[simp] theorem State.raiseOvf_snap (c : Bool) : (s.raiseOvf c).snap = s.snap := rfl
@[simp] theorem State.raiseOvf_seq (c : Bool) : (s.raiseOvf c).seq = s.seq := rfl
@[simp] theorem State.raiseOvf_bus (c : Bool) : (s.raiseOvf c).bus = s.bus := rfl
@[simp] theorem State.raiseOvf_trigOut (c : Bool) : (s.raiseOvf c).trigOut = s.trigOut := rfl
@[simp] theorem State.raiseOvf_unitP (c : Bool) : (s.raiseOvf c).unitP = s.unitP := rfl
@[simp] theorem State.raiseOvf_unitU (c : Bool) : (s.raiseOvf c).unitU = s.unitU := rfl
@[simp] theorem State.raiseOvf_unitF (c : Bool) : (s.raiseOvf c).unitF = s.unitF := rfl
@[simp] theorem State.raiseOvf_rdata (c : Bool) : (s.raiseOvf c).rdata = s.rdata := rfl
@[simp] theorem State.raiseOvf_chip (c : Bool) : (s.raiseOvf c).chip = s.chip := rfl
@[simp] theorem State.raiseOvf_masks (c : Bool) : (s.raiseOvf c).masks = s.masks := rfl
@[simp] theorem State.raiseOvf_env (c : Bool) : (s.raiseOvf c).env = s.env := rfl
@[simp] theorem State.raiseOvf_cycle (c : Bool) : (s.raiseOvf c).cycle = s.cycle := rfl
@[simp] theorem State.raiseOvf_input (c : Bool) : (s.raiseOvf c).input = s.input := rfl

/-! ## reject -/

@[simp] theorem State.reject_arg (k : BitVec 4) : (s.reject k).arg = s.arg := rfl
@[simp] theorem State.reject_result0 (k : BitVec 4) : (s.reject k).result0 = s.result0 := rfl
@[simp] theorem State.reject_result1 (k : BitVec 4) : (s.reject k).result1 = s.result1 := rfl
@[simp] theorem State.reject_status (k : BitVec 4) : (s.reject k).status = s.status.capture k := rfl
@[simp] theorem State.reject_lastPsc (k : BitVec 4) : (s.reject k).lastPsc = s.lastPsc := rfl
@[simp] theorem State.reject_opL (k : BitVec 4) : (s.reject k).opL = s.opL := rfl
@[simp] theorem State.reject_selL (k : BitVec 4) : (s.reject k).selL = s.selL := rfl
@[simp] theorem State.reject_snap (k : BitVec 4) : (s.reject k).snap = s.snap := rfl
@[simp] theorem State.reject_seq (k : BitVec 4) : (s.reject k).seq = s.seq := rfl
@[simp] theorem State.reject_bus (k : BitVec 4) : (s.reject k).bus = s.bus := rfl
@[simp] theorem State.reject_trigOut (k : BitVec 4) : (s.reject k).trigOut = s.trigOut := rfl
@[simp] theorem State.reject_unitP (k : BitVec 4) : (s.reject k).unitP = s.unitP := rfl
@[simp] theorem State.reject_unitU (k : BitVec 4) : (s.reject k).unitU = s.unitU := rfl
@[simp] theorem State.reject_unitF (k : BitVec 4) : (s.reject k).unitF = s.unitF := rfl
@[simp] theorem State.reject_rdata (k : BitVec 4) : (s.reject k).rdata = s.rdata := rfl
@[simp] theorem State.reject_chip (k : BitVec 4) : (s.reject k).chip = s.chip := rfl
@[simp] theorem State.reject_masks (k : BitVec 4) : (s.reject k).masks = s.masks := rfl
@[simp] theorem State.reject_env (k : BitVec 4) : (s.reject k).env = s.env := rfl
@[simp] theorem State.reject_cycle (k : BitVec 4) : (s.reject k).cycle = s.cycle := rfl
@[simp] theorem State.reject_input (k : BitVec 4) : (s.reject k).input = s.input := rfl

/-! ## issue -/

@[simp] theorem State.issue_arg (kind : BusKind) (r : Byte) (d : Word) (p : SeqPos) :
    (s.issue kind r d p).arg = s.arg := rfl
@[simp] theorem State.issue_result0 (kind : BusKind) (r : Byte) (d : Word) (p : SeqPos) :
    (s.issue kind r d p).result0 = s.result0 := rfl
@[simp] theorem State.issue_result1 (kind : BusKind) (r : Byte) (d : Word) (p : SeqPos) :
    (s.issue kind r d p).result1 = s.result1 := rfl
@[simp] theorem State.issue_status (kind : BusKind) (r : Byte) (d : Word) (p : SeqPos) :
    (s.issue kind r d p).status = s.status := rfl
@[simp] theorem State.issue_lastPsc (kind : BusKind) (r : Byte) (d : Word) (p : SeqPos) :
    (s.issue kind r d p).lastPsc = s.lastPsc := rfl
@[simp] theorem State.issue_opL (kind : BusKind) (r : Byte) (d : Word) (p : SeqPos) :
    (s.issue kind r d p).opL = s.opL := rfl
@[simp] theorem State.issue_selL (kind : BusKind) (r : Byte) (d : Word) (p : SeqPos) :
    (s.issue kind r d p).selL = s.selL := rfl
@[simp] theorem State.issue_snap (kind : BusKind) (r : Byte) (d : Word) (p : SeqPos) :
    (s.issue kind r d p).snap = s.snap := rfl
@[simp] theorem State.issue_seq (kind : BusKind) (r : Byte) (d : Word) (p : SeqPos) :
    (s.issue kind r d p).seq = .run p := rfl
@[simp] theorem State.issue_bus (kind : BusKind) (r : Byte) (d : Word) (p : SeqPos) :
    (s.issue kind r d p).bus = { breq := true, kind := kind, reg := r, data := d } := rfl
@[simp] theorem State.issue_trigOut (kind : BusKind) (r : Byte) (d : Word) (p : SeqPos) :
    (s.issue kind r d p).trigOut = s.trigOut := rfl
@[simp] theorem State.issue_unitP (kind : BusKind) (r : Byte) (d : Word) (p : SeqPos) :
    (s.issue kind r d p).unitP = s.unitP := rfl
@[simp] theorem State.issue_unitU (kind : BusKind) (r : Byte) (d : Word) (p : SeqPos) :
    (s.issue kind r d p).unitU = s.unitU := rfl
@[simp] theorem State.issue_unitF (kind : BusKind) (r : Byte) (d : Word) (p : SeqPos) :
    (s.issue kind r d p).unitF = s.unitF := rfl
@[simp] theorem State.issue_rdata (kind : BusKind) (r : Byte) (d : Word) (p : SeqPos) :
    (s.issue kind r d p).rdata = s.rdata := rfl
@[simp] theorem State.issue_chip (kind : BusKind) (r : Byte) (d : Word) (p : SeqPos) :
    (s.issue kind r d p).chip = s.chip := rfl
@[simp] theorem State.issue_masks (kind : BusKind) (r : Byte) (d : Word) (p : SeqPos) :
    (s.issue kind r d p).masks = s.masks := rfl
@[simp] theorem State.issue_env (kind : BusKind) (r : Byte) (d : Word) (p : SeqPos) :
    (s.issue kind r d p).env = s.env := rfl
@[simp] theorem State.issue_cycle (kind : BusKind) (r : Byte) (d : Word) (p : SeqPos) :
    (s.issue kind r d p).cycle = s.cycle := rfl
@[simp] theorem State.issue_input (kind : BusKind) (r : Byte) (d : Word) (p : SeqPos) : (s.issue kind r d p).input = s.input := rfl

/-! ## busWrite1 -/

@[simp] theorem State.busWrite1_arg (r b : Byte) (p : SeqPos) : (s.busWrite1 r b p).arg = s.arg := rfl
@[simp] theorem State.busWrite1_result0 (r b : Byte) (p : SeqPos) : (s.busWrite1 r b p).result0 = s.result0 := rfl
@[simp] theorem State.busWrite1_result1 (r b : Byte) (p : SeqPos) : (s.busWrite1 r b p).result1 = s.result1 := rfl
@[simp] theorem State.busWrite1_status (r b : Byte) (p : SeqPos) : (s.busWrite1 r b p).status = s.status := rfl
@[simp] theorem State.busWrite1_lastPsc (r b : Byte) (p : SeqPos) : (s.busWrite1 r b p).lastPsc = s.lastPsc := rfl
@[simp] theorem State.busWrite1_opL (r b : Byte) (p : SeqPos) : (s.busWrite1 r b p).opL = s.opL := rfl
@[simp] theorem State.busWrite1_selL (r b : Byte) (p : SeqPos) : (s.busWrite1 r b p).selL = s.selL := rfl
@[simp] theorem State.busWrite1_snap (r b : Byte) (p : SeqPos) : (s.busWrite1 r b p).snap = s.snap := rfl
@[simp] theorem State.busWrite1_seq (r b : Byte) (p : SeqPos) : (s.busWrite1 r b p).seq = .run p := rfl
@[simp] theorem State.busWrite1_bus (r b : Byte) (p : SeqPos) :
    (s.busWrite1 r b p).bus = { breq := true, kind := .write1, reg := r, data := b.setWidth 32 } := rfl
@[simp] theorem State.busWrite1_trigOut (r b : Byte) (p : SeqPos) : (s.busWrite1 r b p).trigOut = s.trigOut := rfl
@[simp] theorem State.busWrite1_unitP (r b : Byte) (p : SeqPos) : (s.busWrite1 r b p).unitP = s.unitP := rfl
@[simp] theorem State.busWrite1_unitU (r b : Byte) (p : SeqPos) : (s.busWrite1 r b p).unitU = s.unitU := rfl
@[simp] theorem State.busWrite1_unitF (r b : Byte) (p : SeqPos) : (s.busWrite1 r b p).unitF = s.unitF := rfl
@[simp] theorem State.busWrite1_rdata (r b : Byte) (p : SeqPos) : (s.busWrite1 r b p).rdata = s.rdata := rfl
@[simp] theorem State.busWrite1_chip (r b : Byte) (p : SeqPos) : (s.busWrite1 r b p).chip = s.chip := rfl
@[simp] theorem State.busWrite1_masks (r b : Byte) (p : SeqPos) : (s.busWrite1 r b p).masks = s.masks := rfl
@[simp] theorem State.busWrite1_env (r b : Byte) (p : SeqPos) : (s.busWrite1 r b p).env = s.env := rfl
@[simp] theorem State.busWrite1_cycle (r b : Byte) (p : SeqPos) : (s.busWrite1 r b p).cycle = s.cycle := rfl
@[simp] theorem State.busWrite1_input (r b : Byte) (p : SeqPos) : (s.busWrite1 r b p).input = s.input := rfl

/-! ## busWrite4 -/

@[simp] theorem State.busWrite4_arg (r : Byte) (d : Word) (p : SeqPos) : (s.busWrite4 r d p).arg = s.arg := rfl
@[simp] theorem State.busWrite4_result0 (r : Byte) (d : Word) (p : SeqPos) :
    (s.busWrite4 r d p).result0 = s.result0 := rfl
@[simp] theorem State.busWrite4_result1 (r : Byte) (d : Word) (p : SeqPos) :
    (s.busWrite4 r d p).result1 = s.result1 := rfl
@[simp] theorem State.busWrite4_status (r : Byte) (d : Word) (p : SeqPos) :
    (s.busWrite4 r d p).status = s.status := rfl
@[simp] theorem State.busWrite4_lastPsc (r : Byte) (d : Word) (p : SeqPos) :
    (s.busWrite4 r d p).lastPsc = s.lastPsc := rfl
@[simp] theorem State.busWrite4_opL (r : Byte) (d : Word) (p : SeqPos) : (s.busWrite4 r d p).opL = s.opL := rfl
@[simp] theorem State.busWrite4_selL (r : Byte) (d : Word) (p : SeqPos) : (s.busWrite4 r d p).selL = s.selL := rfl
@[simp] theorem State.busWrite4_snap (r : Byte) (d : Word) (p : SeqPos) : (s.busWrite4 r d p).snap = s.snap := rfl
@[simp] theorem State.busWrite4_seq (r : Byte) (d : Word) (p : SeqPos) : (s.busWrite4 r d p).seq = .run p := rfl
@[simp] theorem State.busWrite4_bus (r : Byte) (d : Word) (p : SeqPos) :
    (s.busWrite4 r d p).bus = { breq := true, kind := .write4, reg := r, data := d } := rfl
@[simp] theorem State.busWrite4_trigOut (r : Byte) (d : Word) (p : SeqPos) :
    (s.busWrite4 r d p).trigOut = s.trigOut := rfl
@[simp] theorem State.busWrite4_unitP (r : Byte) (d : Word) (p : SeqPos) : (s.busWrite4 r d p).unitP = s.unitP := rfl
@[simp] theorem State.busWrite4_unitU (r : Byte) (d : Word) (p : SeqPos) : (s.busWrite4 r d p).unitU = s.unitU := rfl
@[simp] theorem State.busWrite4_unitF (r : Byte) (d : Word) (p : SeqPos) : (s.busWrite4 r d p).unitF = s.unitF := rfl
@[simp] theorem State.busWrite4_rdata (r : Byte) (d : Word) (p : SeqPos) : (s.busWrite4 r d p).rdata = s.rdata := rfl
@[simp] theorem State.busWrite4_chip (r : Byte) (d : Word) (p : SeqPos) : (s.busWrite4 r d p).chip = s.chip := rfl
@[simp] theorem State.busWrite4_masks (r : Byte) (d : Word) (p : SeqPos) : (s.busWrite4 r d p).masks = s.masks := rfl
@[simp] theorem State.busWrite4_env (r : Byte) (d : Word) (p : SeqPos) : (s.busWrite4 r d p).env = s.env := rfl
@[simp] theorem State.busWrite4_cycle (r : Byte) (d : Word) (p : SeqPos) : (s.busWrite4 r d p).cycle = s.cycle := rfl
@[simp] theorem State.busWrite4_input (r : Byte) (d : Word) (p : SeqPos) : (s.busWrite4 r d p).input = s.input := rfl

/-! ## busRead1 -/

@[simp] theorem State.busRead1_arg (r : Byte) (p : SeqPos) : (s.busRead1 r p).arg = s.arg := rfl
@[simp] theorem State.busRead1_result0 (r : Byte) (p : SeqPos) : (s.busRead1 r p).result0 = s.result0 := rfl
@[simp] theorem State.busRead1_result1 (r : Byte) (p : SeqPos) : (s.busRead1 r p).result1 = s.result1 := rfl
@[simp] theorem State.busRead1_status (r : Byte) (p : SeqPos) : (s.busRead1 r p).status = s.status := rfl
@[simp] theorem State.busRead1_lastPsc (r : Byte) (p : SeqPos) : (s.busRead1 r p).lastPsc = s.lastPsc := rfl
@[simp] theorem State.busRead1_opL (r : Byte) (p : SeqPos) : (s.busRead1 r p).opL = s.opL := rfl
@[simp] theorem State.busRead1_selL (r : Byte) (p : SeqPos) : (s.busRead1 r p).selL = s.selL := rfl
@[simp] theorem State.busRead1_snap (r : Byte) (p : SeqPos) : (s.busRead1 r p).snap = s.snap := rfl
@[simp] theorem State.busRead1_seq (r : Byte) (p : SeqPos) : (s.busRead1 r p).seq = .run p := rfl
@[simp] theorem State.busRead1_bus (r : Byte) (p : SeqPos) :
    (s.busRead1 r p).bus = { breq := true, kind := .read1, reg := r, data := Config.readBdata s.cycle } := rfl
@[simp] theorem State.busRead1_trigOut (r : Byte) (p : SeqPos) : (s.busRead1 r p).trigOut = s.trigOut := rfl
@[simp] theorem State.busRead1_unitP (r : Byte) (p : SeqPos) : (s.busRead1 r p).unitP = s.unitP := rfl
@[simp] theorem State.busRead1_unitU (r : Byte) (p : SeqPos) : (s.busRead1 r p).unitU = s.unitU := rfl
@[simp] theorem State.busRead1_unitF (r : Byte) (p : SeqPos) : (s.busRead1 r p).unitF = s.unitF := rfl
@[simp] theorem State.busRead1_rdata (r : Byte) (p : SeqPos) : (s.busRead1 r p).rdata = s.rdata := rfl
@[simp] theorem State.busRead1_chip (r : Byte) (p : SeqPos) : (s.busRead1 r p).chip = s.chip := rfl
@[simp] theorem State.busRead1_masks (r : Byte) (p : SeqPos) : (s.busRead1 r p).masks = s.masks := rfl
@[simp] theorem State.busRead1_env (r : Byte) (p : SeqPos) : (s.busRead1 r p).env = s.env := rfl
@[simp] theorem State.busRead1_cycle (r : Byte) (p : SeqPos) : (s.busRead1 r p).cycle = s.cycle := rfl
@[simp] theorem State.busRead1_input (r : Byte) (p : SeqPos) : (s.busRead1 r p).input = s.input := rfl

/-! ## goTo -/

@[simp] theorem State.goTo_arg (p : SeqPos) : (s.goTo p).arg = s.arg := rfl
@[simp] theorem State.goTo_result0 (p : SeqPos) : (s.goTo p).result0 = s.result0 := rfl
@[simp] theorem State.goTo_result1 (p : SeqPos) : (s.goTo p).result1 = s.result1 := rfl
@[simp] theorem State.goTo_status (p : SeqPos) : (s.goTo p).status = s.status := rfl
@[simp] theorem State.goTo_lastPsc (p : SeqPos) : (s.goTo p).lastPsc = s.lastPsc := rfl
@[simp] theorem State.goTo_opL (p : SeqPos) : (s.goTo p).opL = s.opL := rfl
@[simp] theorem State.goTo_selL (p : SeqPos) : (s.goTo p).selL = s.selL := rfl
@[simp] theorem State.goTo_snap (p : SeqPos) : (s.goTo p).snap = s.snap := rfl
@[simp] theorem State.goTo_seq (p : SeqPos) : (s.goTo p).seq = .run p := rfl
@[simp] theorem State.goTo_bus (p : SeqPos) : (s.goTo p).bus = s.bus := rfl
@[simp] theorem State.goTo_trigOut (p : SeqPos) : (s.goTo p).trigOut = s.trigOut := rfl
@[simp] theorem State.goTo_unitP (p : SeqPos) : (s.goTo p).unitP = s.unitP := rfl
@[simp] theorem State.goTo_unitU (p : SeqPos) : (s.goTo p).unitU = s.unitU := rfl
@[simp] theorem State.goTo_unitF (p : SeqPos) : (s.goTo p).unitF = s.unitF := rfl
@[simp] theorem State.goTo_rdata (p : SeqPos) : (s.goTo p).rdata = s.rdata := rfl
@[simp] theorem State.goTo_chip (p : SeqPos) : (s.goTo p).chip = s.chip := rfl
@[simp] theorem State.goTo_masks (p : SeqPos) : (s.goTo p).masks = s.masks := rfl
@[simp] theorem State.goTo_env (p : SeqPos) : (s.goTo p).env = s.env := rfl
@[simp] theorem State.goTo_cycle (p : SeqPos) : (s.goTo p).cycle = s.cycle := rfl
@[simp] theorem State.goTo_input (p : SeqPos) : (s.goTo p).input = s.input := rfl

/-! ## complete -/

@[simp] theorem State.complete_arg : s.complete.arg = s.arg := rfl
@[simp] theorem State.complete_result0 : s.complete.result0 = s.result0 := rfl
@[simp] theorem State.complete_result1 : s.complete.result1 = s.result1 := rfl
@[simp] theorem State.complete_status : s.complete.status = { s.status with busy := false, done := true } := rfl
@[simp] theorem State.complete_lastPsc : s.complete.lastPsc = s.lastPsc := rfl
@[simp] theorem State.complete_opL : s.complete.opL = s.opL := rfl
@[simp] theorem State.complete_selL : s.complete.selL = s.selL := rfl
@[simp] theorem State.complete_snap : s.complete.snap = s.snap := rfl
@[simp] theorem State.complete_seq : s.complete.seq = .idle := rfl
@[simp] theorem State.complete_bus : s.complete.bus = s.bus := rfl
@[simp] theorem State.complete_trigOut : s.complete.trigOut = s.trigOut := rfl
@[simp] theorem State.complete_unitP : s.complete.unitP = s.unitP := rfl
@[simp] theorem State.complete_unitU : s.complete.unitU = s.unitU := rfl
@[simp] theorem State.complete_unitF : s.complete.unitF = s.unitF := rfl
@[simp] theorem State.complete_rdata : s.complete.rdata = s.rdata := rfl
@[simp] theorem State.complete_chip : s.complete.chip = s.chip := rfl
@[simp] theorem State.complete_masks : s.complete.masks = s.masks := rfl
@[simp] theorem State.complete_env : s.complete.env = s.env := rfl
@[simp] theorem State.complete_cycle : s.complete.cycle = s.cycle := rfl
@[simp] theorem State.complete_input : s.complete.input = s.input := rfl

/-! ## setResult0 -/

@[simp] theorem State.setResult0_arg (v : Word) : (s.setResult0 v).arg = s.arg := rfl
@[simp] theorem State.setResult0_result0 (v : Word) : (s.setResult0 v).result0 = v := rfl
@[simp] theorem State.setResult0_result1 (v : Word) : (s.setResult0 v).result1 = s.result1 := rfl
@[simp] theorem State.setResult0_status (v : Word) : (s.setResult0 v).status = s.status := rfl
@[simp] theorem State.setResult0_lastPsc (v : Word) : (s.setResult0 v).lastPsc = s.lastPsc := rfl
@[simp] theorem State.setResult0_opL (v : Word) : (s.setResult0 v).opL = s.opL := rfl
@[simp] theorem State.setResult0_selL (v : Word) : (s.setResult0 v).selL = s.selL := rfl
@[simp] theorem State.setResult0_snap (v : Word) : (s.setResult0 v).snap = s.snap := rfl
@[simp] theorem State.setResult0_seq (v : Word) : (s.setResult0 v).seq = s.seq := rfl
@[simp] theorem State.setResult0_bus (v : Word) : (s.setResult0 v).bus = s.bus := rfl
@[simp] theorem State.setResult0_trigOut (v : Word) : (s.setResult0 v).trigOut = s.trigOut := rfl
@[simp] theorem State.setResult0_unitP (v : Word) : (s.setResult0 v).unitP = s.unitP := rfl
@[simp] theorem State.setResult0_unitU (v : Word) : (s.setResult0 v).unitU = s.unitU := rfl
@[simp] theorem State.setResult0_unitF (v : Word) : (s.setResult0 v).unitF = s.unitF := rfl
@[simp] theorem State.setResult0_rdata (v : Word) : (s.setResult0 v).rdata = s.rdata := rfl
@[simp] theorem State.setResult0_chip (v : Word) : (s.setResult0 v).chip = s.chip := rfl
@[simp] theorem State.setResult0_masks (v : Word) : (s.setResult0 v).masks = s.masks := rfl
@[simp] theorem State.setResult0_env (v : Word) : (s.setResult0 v).env = s.env := rfl
@[simp] theorem State.setResult0_cycle (v : Word) : (s.setResult0 v).cycle = s.cycle := rfl
@[simp] theorem State.setResult0_input (v : Word) : (s.setResult0 v).input = s.input := rfl

/-! ## setResult1 -/

@[simp] theorem State.setResult1_arg (v : Word) : (s.setResult1 v).arg = s.arg := rfl
@[simp] theorem State.setResult1_result0 (v : Word) : (s.setResult1 v).result0 = s.result0 := rfl
@[simp] theorem State.setResult1_result1 (v : Word) : (s.setResult1 v).result1 = v := rfl
@[simp] theorem State.setResult1_status (v : Word) : (s.setResult1 v).status = s.status := rfl
@[simp] theorem State.setResult1_lastPsc (v : Word) : (s.setResult1 v).lastPsc = s.lastPsc := rfl
@[simp] theorem State.setResult1_opL (v : Word) : (s.setResult1 v).opL = s.opL := rfl
@[simp] theorem State.setResult1_selL (v : Word) : (s.setResult1 v).selL = s.selL := rfl
@[simp] theorem State.setResult1_snap (v : Word) : (s.setResult1 v).snap = s.snap := rfl
@[simp] theorem State.setResult1_seq (v : Word) : (s.setResult1 v).seq = s.seq := rfl
@[simp] theorem State.setResult1_bus (v : Word) : (s.setResult1 v).bus = s.bus := rfl
@[simp] theorem State.setResult1_trigOut (v : Word) : (s.setResult1 v).trigOut = s.trigOut := rfl
@[simp] theorem State.setResult1_unitP (v : Word) : (s.setResult1 v).unitP = s.unitP := rfl
@[simp] theorem State.setResult1_unitU (v : Word) : (s.setResult1 v).unitU = s.unitU := rfl
@[simp] theorem State.setResult1_unitF (v : Word) : (s.setResult1 v).unitF = s.unitF := rfl
@[simp] theorem State.setResult1_rdata (v : Word) : (s.setResult1 v).rdata = s.rdata := rfl
@[simp] theorem State.setResult1_chip (v : Word) : (s.setResult1 v).chip = s.chip := rfl
@[simp] theorem State.setResult1_masks (v : Word) : (s.setResult1 v).masks = s.masks := rfl
@[simp] theorem State.setResult1_env (v : Word) : (s.setResult1 v).env = s.env := rfl
@[simp] theorem State.setResult1_cycle (v : Word) : (s.setResult1 v).cycle = s.cycle := rfl
@[simp] theorem State.setResult1_input (v : Word) : (s.setResult1 v).input = s.input := rfl

/-! ## accept -/

@[simp] theorem State.accept_arg (w : Word) : (s.accept w).arg = s.arg := rfl
@[simp] theorem State.accept_result0 (w : Word) : (s.accept w).result0 = s.result0 := rfl
@[simp] theorem State.accept_result1 (w : Word) : (s.accept w).result1 = s.result1 := rfl
@[simp] theorem State.accept_status (w : Word) : (s.accept w).status = { s.status with busy := true } := rfl
@[simp] theorem State.accept_lastPsc (w : Word) : (s.accept w).lastPsc = s.lastPsc := rfl
@[simp] theorem State.accept_opL (w : Word) : (s.accept w).opL = opField w := rfl
@[simp] theorem State.accept_selL (w : Word) : (s.accept w).selL = selField w := rfl
@[simp] theorem State.accept_snap (w : Word) : (s.accept w).snap = s.arg := rfl
@[simp] theorem State.accept_seq (w : Word) : (s.accept w).seq = .run .start := rfl
@[simp] theorem State.accept_bus (w : Word) : (s.accept w).bus = s.bus := rfl
@[simp] theorem State.accept_trigOut (w : Word) : (s.accept w).trigOut = s.trigOut := rfl
@[simp] theorem State.accept_unitP (w : Word) : (s.accept w).unitP = s.unitP := rfl
@[simp] theorem State.accept_unitU (w : Word) : (s.accept w).unitU = s.unitU := rfl
@[simp] theorem State.accept_unitF (w : Word) : (s.accept w).unitF = s.unitF := rfl
@[simp] theorem State.accept_rdata (w : Word) : (s.accept w).rdata = s.rdata := rfl
@[simp] theorem State.accept_chip (w : Word) : (s.accept w).chip = s.chip := rfl
@[simp] theorem State.accept_masks (w : Word) : (s.accept w).masks = s.masks := rfl
@[simp] theorem State.accept_env (w : Word) : (s.accept w).env = s.env := rfl
@[simp] theorem State.accept_cycle (w : Word) : (s.accept w).cycle = s.cycle := rfl
@[simp] theorem State.accept_input (w : Word) : (s.accept w).input = s.input := rfl

/-! ## busAck -/

@[simp] theorem State.busAck_arg : s.busAck.arg = s.arg := rfl
@[simp] theorem State.busAck_result0 : s.busAck.result0 = s.result0 := rfl
@[simp] theorem State.busAck_result1 : s.busAck.result1 = s.result1 := rfl
@[simp] theorem State.busAck_status : s.busAck.status = s.status := rfl
@[simp] theorem State.busAck_lastPsc :
    s.busAck.lastPsc = if s.seq = .run (.freq .prescale) then { valid := true, psc := s.unitP.pscb } else s.lastPsc := rfl
@[simp] theorem State.busAck_opL : s.busAck.opL = s.opL := rfl
@[simp] theorem State.busAck_selL : s.busAck.selL = s.selL := rfl
@[simp] theorem State.busAck_snap : s.busAck.snap = s.snap := rfl
@[simp] theorem State.busAck_seq : s.busAck.seq = s.seq := rfl
@[simp] theorem State.busAck_bus : s.busAck.bus = { s.bus with breq := false } := rfl
@[simp] theorem State.busAck_trigOut : s.busAck.trigOut = s.trigOut := rfl
@[simp] theorem State.busAck_unitP :
    s.busAck.unitP = { s.unitP with old := if s.bus.kind = .read1 then s.input.brdata else s.unitP.old } := rfl
@[simp] theorem State.busAck_unitU : s.busAck.unitU = s.unitU := rfl
@[simp] theorem State.busAck_unitF : s.busAck.unitF = s.unitF := rfl
@[simp] theorem State.busAck_rdata : s.busAck.rdata = s.rdata := rfl
@[simp] theorem State.busAck_chip :
    s.busAck.chip = s.chip.writeBytes s.bus.reg.toNat s.bus.data s.bus.kind.bytes := rfl
@[simp] theorem State.busAck_masks : s.busAck.masks = s.masks := rfl
@[simp] theorem State.busAck_env : s.busAck.env = s.env := rfl
@[simp] theorem State.busAck_cycle : s.busAck.cycle = s.cycle := rfl
@[simp] theorem State.busAck_input : s.busAck.input = s.input := rfl

/-! ## initDone -/

@[simp] theorem State.initDone_arg : s.initDone.arg = s.arg := rfl
@[simp] theorem State.initDone_result0 : s.initDone.result0 = s.result0 := rfl
@[simp] theorem State.initDone_result1 : s.initDone.result1 = s.result1 := rfl
@[simp] theorem State.initDone_status : s.initDone.status = { s.status with ready := true } := rfl
@[simp] theorem State.initDone_lastPsc : s.initDone.lastPsc = s.lastPsc := rfl
@[simp] theorem State.initDone_opL : s.initDone.opL = s.opL := rfl
@[simp] theorem State.initDone_selL : s.initDone.selL = s.selL := rfl
@[simp] theorem State.initDone_snap : s.initDone.snap = s.snap := rfl
@[simp] theorem State.initDone_seq : s.initDone.seq = s.seq := rfl
@[simp] theorem State.initDone_bus : s.initDone.bus = s.bus := rfl
@[simp] theorem State.initDone_trigOut : s.initDone.trigOut = s.trigOut := rfl
@[simp] theorem State.initDone_unitP : s.initDone.unitP = { s.unitP with initpend := false } := rfl
@[simp] theorem State.initDone_unitU : s.initDone.unitU = s.unitU := rfl
@[simp] theorem State.initDone_unitF : s.initDone.unitF = s.unitF := rfl
@[simp] theorem State.initDone_rdata : s.initDone.rdata = s.rdata := rfl
@[simp] theorem State.initDone_chip : s.initDone.chip = s.chip := rfl
@[simp] theorem State.initDone_masks : s.initDone.masks = s.masks := rfl
@[simp] theorem State.initDone_env : s.initDone.env = s.env := rfl
@[simp] theorem State.initDone_cycle : s.initDone.cycle = s.cycle := rfl
@[simp] theorem State.initDone_input : s.initDone.input = s.input := rfl

/-! ## driveTrig -/

@[simp] theorem State.driveTrig_arg (v : Bool) : (s.driveTrig v).arg = s.arg := rfl
@[simp] theorem State.driveTrig_result0 (v : Bool) : (s.driveTrig v).result0 = s.result0 := rfl
@[simp] theorem State.driveTrig_result1 (v : Bool) : (s.driveTrig v).result1 = s.result1 := rfl
@[simp] theorem State.driveTrig_status (v : Bool) : (s.driveTrig v).status = s.status := rfl
@[simp] theorem State.driveTrig_lastPsc (v : Bool) : (s.driveTrig v).lastPsc = s.lastPsc := rfl
@[simp] theorem State.driveTrig_opL (v : Bool) : (s.driveTrig v).opL = s.opL := rfl
@[simp] theorem State.driveTrig_selL (v : Bool) : (s.driveTrig v).selL = s.selL := rfl
@[simp] theorem State.driveTrig_snap (v : Bool) : (s.driveTrig v).snap = s.snap := rfl
@[simp] theorem State.driveTrig_seq (v : Bool) : (s.driveTrig v).seq = s.seq := rfl
@[simp] theorem State.driveTrig_bus (v : Bool) : (s.driveTrig v).bus = s.bus := rfl
@[simp] theorem State.driveTrig_trigOut (v : Bool) : (s.driveTrig v).trigOut = v := rfl
@[simp] theorem State.driveTrig_unitP (v : Bool) : (s.driveTrig v).unitP = s.unitP := rfl
@[simp] theorem State.driveTrig_unitU (v : Bool) : (s.driveTrig v).unitU = s.unitU := rfl
@[simp] theorem State.driveTrig_unitF (v : Bool) : (s.driveTrig v).unitF = s.unitF := rfl
@[simp] theorem State.driveTrig_rdata (v : Bool) : (s.driveTrig v).rdata = s.rdata := rfl
@[simp] theorem State.driveTrig_chip (v : Bool) : (s.driveTrig v).chip = s.chip := rfl
@[simp] theorem State.driveTrig_masks (v : Bool) : (s.driveTrig v).masks = s.masks := rfl
@[simp] theorem State.driveTrig_env (v : Bool) : (s.driveTrig v).env = s.env := rfl
@[simp] theorem State.driveTrig_cycle (v : Bool) : (s.driveTrig v).cycle = s.cycle := rfl
@[simp] theorem State.driveTrig_input (v : Bool) : (s.driveTrig v).input = s.input := rfl

/-! ## setUph -/

@[simp] theorem State.setUph_arg (ph : EchoPhase) : (s.setUph ph).arg = s.arg := rfl
@[simp] theorem State.setUph_result0 (ph : EchoPhase) : (s.setUph ph).result0 = s.result0 := rfl
@[simp] theorem State.setUph_result1 (ph : EchoPhase) : (s.setUph ph).result1 = s.result1 := rfl
@[simp] theorem State.setUph_status (ph : EchoPhase) : (s.setUph ph).status = s.status := rfl
@[simp] theorem State.setUph_lastPsc (ph : EchoPhase) : (s.setUph ph).lastPsc = s.lastPsc := rfl
@[simp] theorem State.setUph_opL (ph : EchoPhase) : (s.setUph ph).opL = s.opL := rfl
@[simp] theorem State.setUph_selL (ph : EchoPhase) : (s.setUph ph).selL = s.selL := rfl
@[simp] theorem State.setUph_snap (ph : EchoPhase) : (s.setUph ph).snap = s.snap := rfl
@[simp] theorem State.setUph_seq (ph : EchoPhase) : (s.setUph ph).seq = s.seq := rfl
@[simp] theorem State.setUph_bus (ph : EchoPhase) : (s.setUph ph).bus = s.bus := rfl
@[simp] theorem State.setUph_trigOut (ph : EchoPhase) : (s.setUph ph).trigOut = s.trigOut := rfl
@[simp] theorem State.setUph_unitP (ph : EchoPhase) : (s.setUph ph).unitP = s.unitP := rfl
@[simp] theorem State.setUph_unitU (ph : EchoPhase) : (s.setUph ph).unitU = { s.unitU with uph := ph } := rfl
@[simp] theorem State.setUph_unitF (ph : EchoPhase) : (s.setUph ph).unitF = s.unitF := rfl
@[simp] theorem State.setUph_rdata (ph : EchoPhase) : (s.setUph ph).rdata = s.rdata := rfl
@[simp] theorem State.setUph_chip (ph : EchoPhase) : (s.setUph ph).chip = s.chip := rfl
@[simp] theorem State.setUph_masks (ph : EchoPhase) : (s.setUph ph).masks = s.masks := rfl
@[simp] theorem State.setUph_env (ph : EchoPhase) : (s.setUph ph).env = s.env := rfl
@[simp] theorem State.setUph_cycle (ph : EchoPhase) : (s.setUph ph).cycle = s.cycle := rfl
@[simp] theorem State.setUph_input (ph : EchoPhase) : (s.setUph ph).input = s.input := rfl

/-! ## freqLoopStart -/

@[simp] theorem State.freqLoopStart_arg : s.freqLoopStart.arg = s.arg := rfl
@[simp] theorem State.freqLoopStart_result0 : s.freqLoopStart.result0 = s.result0 := rfl
@[simp] theorem State.freqLoopStart_result1 : s.freqLoopStart.result1 = s.result1 := rfl
@[simp] theorem State.freqLoopStart_status : s.freqLoopStart.status = s.status := rfl
@[simp] theorem State.freqLoopStart_lastPsc : s.freqLoopStart.lastPsc = s.lastPsc := rfl
@[simp] theorem State.freqLoopStart_opL : s.freqLoopStart.opL = s.opL := rfl
@[simp] theorem State.freqLoopStart_selL : s.freqLoopStart.selL = s.selL := rfl
@[simp] theorem State.freqLoopStart_snap : s.freqLoopStart.snap = s.snap := rfl
@[simp] theorem State.freqLoopStart_seq : s.freqLoopStart.seq = .run .sample := rfl
@[simp] theorem State.freqLoopStart_bus : s.freqLoopStart.bus = s.bus := rfl
@[simp] theorem State.freqLoopStart_trigOut : s.freqLoopStart.trigOut = s.trigOut := rfl
@[simp] theorem State.freqLoopStart_unitP : s.freqLoopStart.unitP = s.unitP := rfl
@[simp] theorem State.freqLoopStart_unitU : s.freqLoopStart.unitU = s.unitU := rfl
@[simp] theorem State.freqLoopStart_unitF :
    s.freqLoopStart.unitF = { fk := 0, fph := 0, ec := 0, prev := none } := rfl
@[simp] theorem State.freqLoopStart_rdata : s.freqLoopStart.rdata = s.rdata := rfl
@[simp] theorem State.freqLoopStart_chip : s.freqLoopStart.chip = s.chip := rfl
@[simp] theorem State.freqLoopStart_masks : s.freqLoopStart.masks = s.masks := rfl
@[simp] theorem State.freqLoopStart_env : s.freqLoopStart.env = s.env := rfl
@[simp] theorem State.freqLoopStart_cycle : s.freqLoopStart.cycle = s.cycle := rfl
@[simp] theorem State.freqLoopStart_input : s.freqLoopStart.input = s.input := rfl

end Sys2Proof.Machine
end

