-- ==== Sys2Proof/Laws/Ops.lean ====
section
/-! SUPPORT. What each shared operation can do, said once: if it answers a next state, that state is one of these. -/

namespace Sys2Proof.Machine

/-- A SEQ cycle with a request outstanding is the handshake, whatever the command. -/
theorem running_breq {s : State} {p : SeqPos} {body : SeqPos → Result} (h : s.seq = .run p)
    (hb : s.bus.breq = true) : running s body = .next s.busCycle := by
  simp [running, h, hb]

/-- A SEQ cycle with no request outstanding is the pseudocode from its position. -/
theorem running_resumes {s : State} {p : SeqPos} {body : SeqPos → Result} (h : s.resumesAt p) :
    running s body = body p := by
  simp [running, h.1, h.2]

/-- What a SEQ cycle can do: the handshake, or the pseudocode. -/
theorem running_next {s t : State} {body : SeqPos → Result} (h : running s body = .next t) :
    (∃ p, s.seq = .run p ∧ s.bus.breq = true ∧ t = s.busCycle) ∨ (∃ p, s.resumesAt p ∧ body p = .next t) := by
  simp only [running] at h
  split at h
  · cases h
  · rename_i p hp
    split at h
    · cases h; exact .inl ⟨p, hp, ‹_›, rfl⟩
    · exact .inr ⟨p, ⟨hp, by simpa using ‹¬s.bus.breq = true›⟩, h⟩

/-- The handshake: the acknowledgement, or nothing. -/
theorem busCycle_cases (s : State) :
    (s.input.back = true ∧ s.busCycle = s.busAck) ∨ (s.input.back = false ∧ s.busCycle = s) := by
  cases h : s.input.back <;> simp [State.busCycle, h]

/-- What setFreqSeq can do when it resumes. -/
theorem freqResume_next {f : FreqPos} {s t : State} {after : State → Result} (h : freqResume f s after = .next t) :
    (f = .restart ∧ after s = .next t) ∨ (f ≠ .restart ∧ t = s.freqMove f) := by
  simp only [freqResume] at h
  split at h
  · exact .inl ⟨‹_›, h⟩
  · cases h; exact .inr ⟨‹_›, rfl⟩

/-- What emitChannel can do: one WRITE4 for a valid channel, CH_IGN and on for an invalid one. -/
theorem emitChannel_next {ch on off : Int} {p : SeqPos} {s t : State} {after : State → Result}
    (h : emitChannel ch on off p s after = .next t) :
    (channelValid ch = true ∧
      t = (s.raiseClamped ((clampTick on).2 || (clampTick off).2)).busWrite4 (channelReg ch)
        (frame (clampTick on).1 (clampTick off).1) p) ∨
    (channelValid ch = false ∧
      after ((s.raiseClamped ((clampTick on).2 || (clampTick off).2)).raiseChIgn true) = .next t) := by
  simp only [emitChannel] at h
  split at h
  · cases h; exact .inl ⟨‹_›, rfl⟩
  · exact .inr ⟨by simpa using ‹¬channelValid ch = true›, h⟩

/-- What a command that begins with ensureReady can do at a position: a cycle of ensureReady, its body when ensureReady
returns, or a cycle of its own. -/
theorem chipCommand_next {p : SeqPos} {s t : State} {body : State → Result} {own : SeqPos → Result}
    (h : chipCommand p s body own = .next t) :
    (p = .start ∧ s.status.ready = false ∧ t = s.initIssue) ∨
    (p = .start ∧ s.status.ready = true ∧ body s = .next t) ∨
    (p = .initWake ∧ t = s.freqStart initHz) ∨
    (∃ f, p = .freq f ∧ s.unitP.initpend = true ∧ f ≠ .restart ∧ t = s.freqMove f) ∨
    (p = .freq .restart ∧ s.unitP.initpend = true ∧ body s.initDone = .next t) ∨
    (p ≠ .start ∧ p ≠ .initWake ∧ ((∃ f, p = .freq f) → s.unitP.initpend = false) ∧ own p = .next t) := by
  cases p with
  | start =>
    simp only [chipCommand, ensureReady] at h
    split at h
    · exact .inr (.inl ⟨rfl, ‹_›, h⟩)
    · cases h; exact .inl ⟨rfl, by simpa using ‹¬s.status.ready = true›, rfl⟩
  | initWake => cases h; exact .inr (.inr (.inl ⟨rfl, rfl⟩))
  | freq f =>
    simp only [chipCommand] at h
    split at h
    · rcases freqResume_next h with ⟨rfl, h⟩ | ⟨hf, h⟩
      · exact .inr (.inr (.inr (.inr (.inl ⟨rfl, ‹_›, h⟩))))
      · exact .inr (.inr (.inr (.inl ⟨f, rfl, ‹_›, hf, h⟩)))
    · exact .inr (.inr (.inr (.inr (.inr ⟨by simp, by simp, fun _ => by simpa using ‹¬s.unitP.initpend = true›, h⟩))))
  | _ =>
    simp only [chipCommand] at h
    exact .inr (.inr (.inr (.inr (.inr ⟨by simp, by simp, by simp, h⟩))))

end Sys2Proof.Machine
end

