-- ==== Sys2Proof/Laws/PerInstr.lean ====
section
/-! SUPPORT. Statements about every command, one lemma per constructor.
Family `EncodedFields`: the fields of a command's word are its opcode, its selector and RSV = 0
(spec/30_encoding.md R100, R104). -/

namespace Sys2Proof.Laws.EncodedFields

/-- The fields of the command's word. -/
def Statement (i : Instr) : Prop :=
  opField (encode i) = i.opcode ∧ selField (encode i) = i.selector ∧ rsvField (encode i) = 0

theorem of_encode (i : Instr) : Statement i := by simp [Statement, encode]

theorem nop (sel : Byte) : Statement (.nop sel) := of_encode _
theorem init (sel : Byte) : Statement (.init sel) := of_encode _
theorem calcPrescale (sel : Byte) : Statement (.calcPrescale sel) := of_encode _
theorem setFreq (sel : Byte) : Statement (.setFreq sel) := of_encode _
theorem setChannel (ch : Int) : Statement (.setChannel ch) := of_encode _
theorem clampTick (sel : Byte) : Statement (.clampTick sel) := of_encode _
theorem mapLinear (sel : Byte) : Statement (.mapLinear sel) := of_encode _
theorem mapMotor (sel : Byte) : Statement (.mapMotor sel) := of_encode _
theorem servo (ch : Int) : Statement (.servo ch) := of_encode _
theorem servoRange (ch : Int) : Statement (.servoRange ch) := of_encode _
theorem motor (port : MotorPort) : Statement (.motor port) := of_encode _
theorem setFreqPreset (preset : Preset) : Statement (.setFreqPreset preset) := of_encode _
theorem ultrasonic (sel : Byte) : Statement (.ultrasonic sel) := of_encode _
theorem freqDetect (ch : Int) : Statement (.freqDetect ch) := of_encode _

end Sys2Proof.Laws.EncodedFields
end

