-- ==== Sys2Proof/Laws/Step.lean ====
section
/-! SUPPORT. What the HOST access and a step can do, said once. -/

namespace Sys2Proof.Machine

/-- While BUSY = 1 no HOST access is an accepted command (code 1 of spec/60_exceptions.md R272). -/
theorem hostAccess_busy {s : State} (hb : s.status.busy = true) (h : Option HostAccess) : (s.hostAccess h).2 = false := by
  rcases h with _ | ⟨off⟩ | ⟨off, v⟩ <;>
    simp [State.hostAccess, State.hostWrite, State.request, State.requestCode, hb]
  (repeat' split) <;> simp

/-- What a HOST access that is no accepted command leaves unchanged: all but ARG, the read data, and STATUS outside BUSY and
READY. -/
theorem hostAccess_frame {s : State} {h : Option HostAccess} (hf : (s.hostAccess h).2 = false) :
    (s.hostAccess h).1 =
      { s with
        arg := (s.hostAccess h).1.arg
        rdata := (s.hostAccess h).1.rdata
        status := { (s.hostAccess h).1.status with busy := s.status.busy, ready := s.status.ready } } := by
  revert hf
  rcases h with _ | ⟨off⟩ | ⟨off, v⟩ <;> simp only [State.hostAccess, State.hostWrite, State.request] <;>
    (repeat' split) <;> simp [State.reject, Status.capture, Status.w1c]
  split <;> simp

/-- A HOST access that is an accepted command is a CMD write without a code, and its state is `accept`'s. -/
theorem hostAccess_accepted {s : State} {h : Option HostAccess} (ha : (s.hostAccess h).2 = true) :
    ∃ w, s.requestCode w = none ∧ (s.hostAccess h).1 = State.accept w { s with rdata := none } := by
  revert ha
  rcases h with _ | ⟨off⟩ | ⟨off, v⟩ <;> simp only [State.hostAccess, State.hostWrite, State.request] <;>
    (repeat' split) <;> simp only [Bool.false_eq_true, false_implies, forall_const]
  exact ⟨v, ‹_›, rfl⟩

/-- What a step without RST can do: accept a command, serve HOST while IDLE, or run a cycle of the latched command. -/
theorem step_next {s t : State} (hr : s.input.rst = false) (h : step s = .next t) :
    (∃ w, (s.hostAccess s.input.host).2 = true ∧ s.requestCode w = none ∧
      t = (State.accept w { s with rdata := none }).tick) ∨
    ((s.hostAccess s.input.host).2 = false ∧ s.seq = .idle ∧ t = (s.hostAccess s.input.host).1.tick) ∨
    ((s.hostAccess s.input.host).2 = false ∧ ∃ i p v, s.seq = .run p ∧ s.latched = .ok i ∧
      exec i (s.hostAccess s.input.host).1 = .next v ∧ t = v.tick) := by
  have hf := @hostAccess_frame s s.input.host
  have ha := @hostAccess_accepted s s.input.host
  simp only [step, hr, Bool.false_eq_true, if_false] at h
  rcases hx : s.hostAccess s.input.host with ⟨u, b⟩
  rw [hx] at h hf ha
  cases b
  · have hu := hf rfl
    have hseq : u.seq = s.seq := (congrArg State.seq hu :)
    have hlat : u.latched = s.latched := (congrArg State.latched hu :)
    right
    simp only [seqStep, hseq, hlat] at h
    split at h
    · exact .inl ⟨rfl, ‹_›, by cases h; rfl⟩
    · split at h
      · rename_i p hp _ i hi
        cases hy : exec i u with
        | next v => rw [hy] at h; cases h; exact .inr ⟨rfl, i, p, v, hp, hi, hy, rfl⟩
        | fault r => rw [hy] at h; cases h
        | refused r => rw [hy] at h; cases h
      · cases h
  · obtain ⟨w, hc, hw⟩ := ha rfl
    cases h
    exact .inl ⟨w, rfl, hc, congrArg State.tick hw⟩

end Sys2Proof.Machine
end

