-- ==== Sys2Proof/Machine/Program.lean ====
section
/-! DEFINITION. Programs as HOST writes them: the lines of spec/30_encoding.md R108 as HOST accesses, and the inline
forms of R109. The block runs no program (spec/10_state.md R33): the lines are what HOST does in its cycles, one access a
cycle. -/

namespace Sys2Proof.Machine

/-- The five operand registers (spec/10_state.md R31). -/
inductive ArgReg where
  | arg0 | arg1 | arg2 | arg3 | arg4
  deriving DecidableEq, Repr

/-- The byte offset of an operand register (R35, R108: 0x08 + 4*i). -/
def ArgReg.offset : ArgReg → BitVec 6
  | .arg0 => 0x08
  | .arg1 => 0x0C
  | .arg2 => 0x10
  | .arg3 => 0x14
  | .arg4 => 0x18

/-- The names a READ line may give (R108). -/
inductive ReadName where
  | status
  | arg (r : ArgReg)
  | result0
  | result1
  | lastPsc
  deriving DecidableEq, Repr

/-- The byte offset of a named register (R35). -/
def ReadName.offset : ReadName → BitVec 6
  | .status => 0x04
  | .arg r => r.offset
  | .result0 => 0x1C
  | .result1 => 0x20
  | .lastPsc => 0x24

/-- The mnemonics of R104. -/
inductive Mnemonic where
  | nop | init | calcPrescale | setFreq | setChannel | clampTick | mapLinear | mapMotor | servo | servoRange | motor
  | setFreqPreset | ultrasonic | freqDetect
  deriving DecidableEq, Repr

/-- The opcode a mnemonic stands for (R104). -/
def Mnemonic.opcode : Mnemonic → Byte
  | .nop => 0x00
  | .init => 0x01
  | .calcPrescale => 0x02
  | .setFreq => 0x03
  | .setChannel => 0x04
  | .clampTick => 0x05
  | .mapLinear => 0x06
  | .mapMotor => 0x07
  | .servo => 0x08
  | .servoRange => 0x09
  | .motor => 0x0A
  | .setFreqPreset => 0x0B
  | .ultrasonic => 0x0C
  | .freqDetect => 0x0D

/-- A line of a program (R108). `cmd` may name a selector the block rejects. -/
inductive HostLine where
  | setArg (r : ArgReg) (v : Int)
  | cmd (m : Mnemonic) (sel : Int)
  | w1c (m : Word)
  | read (n : ReadName)
  | poll
  deriving DecidableEq, Repr

/-- `hz(f)` for a whole number of hertz: f * 65536 (R108, spec/40_pwm_controller.md R136). -/
def hz (f : Int) : Int := f * 65536

/-- The HOST access of a line (R108); POLL repeats its access while `pollAgain` holds of what it read. -/
def HostLine.access : HostLine → HostAccess
  | .setArg r v => .write r.offset (toWord v)
  | .cmd m sel => .write 0x00 (commandWord m.opcode (BitVec.ofInt 8 sel))
  | .w1c m => .write 0x04 m
  | .read n => .read n.offset
  | .poll => .read 0x04

/-- POLL goes on while bit 0 (BUSY) of what it read is 1 (R108). -/
def pollAgain (v : Word) : Bool := v.getLsbD 0

/-- The opcodes whose inline form begins with a sel token (R109). -/
def Mnemonic.usesSelector : Mnemonic → Bool
  | .nop | .init | .calcPrescale | .setFreq | .clampTick | .mapLinear | .mapMotor | .ultrasonic => false
  | .setChannel | .servo | .servoRange | .motor | .setFreqPreset | .freqDetect => true

/-- The expansion of an inline form with its selector (R109): the operands given, in index order, the command, POLL. -/
def expansion (m : Mnemonic) (sel : Int) (operands : List Int) : List HostLine :=
  List.zipWith .setArg [.arg0, .arg1, .arg2, .arg3, .arg4] operands ++ [.cmd m sel, .poll]

/-- An inline form, `MNEMONIC` with its tokens (R109): a sel token and at most three operands, or at most five operands and
SEL = 0. -/
def inlineForm (m : Mnemonic) (tokens : List Int) : Option (List HostLine) :=
  if m.usesSelector then
    match tokens with
    | [] => none
    | sel :: operands => if operands.length ≤ 3 then some (expansion m sel operands) else none
  else if tokens.length ≤ 5 then some (expansion m 0 tokens)
  else none

end Sys2Proof.Machine
end

