-- ==== Sys2Proof/Tests/Slice0.lean ====
section
/-! SUPPORT. Tests: ill-formed terms the check refuses, words written out from spec/30_encoding.md, one SEQ cycle or step per
test with the values of spec/95_test_vectors.md, and for each statement with hypotheses a state that meets them. -/

namespace Sys2Proof.Tests

open Sys2Proof Sys2Proof.Machine

/-! ## WellFormed refuses ill-formed terms -/

theorem test_wf_setChannel_high : ¬(Instr.setChannel 128).WellFormed := by decide
theorem test_wf_setChannel_low : ¬(Instr.setChannel (-129)).WellFormed := by decide
theorem test_wf_servo : ¬(Instr.servo 128).WellFormed := by decide
theorem test_wf_servoRange : ¬(Instr.servoRange (-129)).WellFormed := by decide
theorem test_wf_freqDetect : ¬(Instr.freqDetect 1000).WellFormed := by decide

/-! ## Decoding: words written out from R100, R102 and R104: RSV, SEL, OP -/

theorem test_decode_nop : decodeWord 0b0000000000000000_00000000_00000000 = .ok (.nop 0) := by decide
theorem test_decode_nop_anySel : decodeWord 0b0000000000000000_11111111_00000000 = .ok (.nop 0xFF) := by decide
theorem test_decode_init : decodeWord 0b0000000000000000_00000000_00000001 = .ok (.init 0) := by decide
theorem test_decode_calcPrescale : decodeWord 0b0000000000000000_00000000_00000010 = .ok (.calcPrescale 0) := by decide
theorem test_decode_setFreq : decodeWord 0b0000000000000000_00000000_00000011 = .ok (.setFreq 0) := by decide
theorem test_decode_setChannel : decodeWord 0b0000000000000000_10000000_00000100 = .ok (.setChannel (-128)) := by decide
theorem test_decode_clampTick : decodeWord 0b0000000000000000_00000000_00000101 = .ok (.clampTick 0) := by decide
theorem test_decode_mapLinear : decodeWord 0b0000000000000000_00000000_00000110 = .ok (.mapLinear 0) := by decide
theorem test_decode_mapMotor : decodeWord 0b0000000000000000_00000000_00000111 = .ok (.mapMotor 0) := by decide
theorem test_decode_servo : decodeWord 0b0000000000000000_00000011_00001000 = .ok (.servo 3) := by decide
theorem test_decode_servoRange : decodeWord 0b0000000000000000_00001111_00001001 = .ok (.servoRange 15) := by decide
theorem test_decode_motor : decodeWord 0b0000000000000000_00000011_00001010 = .ok (.motor .p3) := by decide
theorem test_decode_motor_badPort : decodeWord 0b0000000000000000_00000100_00001010 = .error .badSelector := by decide
theorem test_decode_preset : decodeWord 0b0000000000000000_00000101_00001011 = .ok (.setFreqPreset .f) := by decide
theorem test_decode_preset_bad : decodeWord 0b0000000000000000_00000110_00001011 = .error .badSelector := by decide
theorem test_decode_ultrasonic : decodeWord 0b0000000000000000_00000000_00001100 = .ok (.ultrasonic 0) := by decide
theorem test_decode_freqDetect : decodeWord 0b0000000000000000_11111111_00001101 = .ok (.freqDetect (-1)) := by decide
theorem test_decode_illegal : decodeWord 0b0000000000000000_00000000_00001110 = .error .illegalOp := by decide
theorem test_decode_reserved : decodeWord 0b0000000000000001_00000000_00000000 = .error .reservedBits := by decide
theorem test_decode_bytes_littleEndian : decodeBytes [0x08, 0x03, 0x00, 0x00] = .ok (.servo 3, []) := by decide
theorem test_decode_truncated : decodeBytes [0x08, 0x03] = .error .truncated := by decide
theorem test_decode_table : decodeTableWord 32 0x0000020D = some (.freqDetect 2) := by decide

/-! ## One cycle -/

/-- The next state of an outcome, if it has one. -/
def next? : Result → Option State
  | .next s => some s
  | .fault _ => none
  | .refused _ => none

/-- After reset, but running the command of `op` and `sel` at position `p`, READY = 1, in a quiet cycle. -/
def runAt (op sel : Byte) (p : SeqPos) : State :=
  { State.reset with
    opL := op, selL := sel, seq := .run p
    status := { State.reset.status with busy := true, ready := true }
    env := [quietInput] }

/-- The same with the first two operands of the snapshot. -/
def runWith (op sel : Byte) (p : SeqPos) (a0 a1 : Word) : State :=
  { runAt op sel p with snap := { a0 := a0, a1 := a1, a2 := 0, a3 := 0, a4 := 0 } }

/-- The same with READY = 0. -/
def notReady (s : State) : State := { s with status := { s.status with ready := false } }

/-- The same with a HOST access in the cycle. -/
def withHost (s : State) (a : HostAccess) : State := { s with env := [{ quietInput with host := some a }] }

/-- After reset, with a HOST access in the first cycle. -/
def hostCycle (a : HostAccess) : State := withHost State.reset a

/-- A request outstanding at a position of the running command, and XPORT's BACK in the cycle. -/
def waiting (s : State) (back : Bool) : State :=
  { s with
    bus := { breq := true, kind := .write1, reg := regPrescale, data := 0x79 }
    unitP := { s.unitP with pscb := 0x79 }
    env := [{ quietInput with back := back }] }

theorem test_nop : (next? (exec (.nop 0) (runAt 0x00 0 .start))).map (fun t => (t.seq, t.status.word)) =
    some (.idle, 0x00000006) := by decide

-- spec/95_test_vectors.md L2 section 1: 23 Hz, and the largest A
theorem test_calcPrescale_23Hz :
    (next? (exec (.calcPrescale 0) (runWith 0x02 0 .start 0x00170000 0))).map
      (fun t => (t.result0, t.result1, t.status.word)) = some (264, 0x08, 0x00000106) := by decide
theorem test_calcPrescale_largest :
    (next? (exec (.calcPrescale 0) (runWith 0x02 0 .start 0xFFFFFFFF 0))).map (fun t => (t.result0, t.result1)) =
      some (0xFFFFFFFF, 0xFF) := by decide

-- L2 section 2
theorem test_clampTick_minimum :
    (next? (exec (.clampTick 0) (runWith 0x05 0 .start 0x80000000 0))).map (fun t => (t.result0, t.status.clamped)) =
      some (0, true) := by decide
theorem test_clampTick_4095 :
    (next? (exec (.clampTick 0) (runWith 0x05 0 .start 4095 0))).map (fun t => (t.result0, t.status.clamped)) =
      some (4095, false) := by decide

-- L2 section 4: truncation toward zero of -23.33..., and the saturating product
theorem test_mapLinear_truncates :
    (next? (exec (.mapLinear 0)
      { runAt 0x06 0 .start with snap := { a0 := 7, a1 := 0, a2 := 3, a3 := 0, a4 := 0xFFFFFFF6 } })).map
      (fun t => (t.result0, t.status.ovf)) = some (0xFFFFFFE9, false) := by decide
theorem test_mapLinear_saturates :
    (next? (exec (.mapLinear 0)
      { runAt 0x06 0 .start with
        snap := { a0 := 0x7FFFFFFF, a1 := 0, a2 := 1, a3 := 0, a4 := 0x7FFFFFFF } })).map
      (fun t => (t.result0, t.status.ovf)) = some (0x7FFFFFFF, true) := by decide

-- L2 section 5
theorem test_mapMotor_255 :
    (next? (exec (.mapMotor 0) (runWith 0x07 0 .start 255 0))).map (fun t => (t.result0, t.status.clamped)) =
      some (4080, false) := by decide
theorem test_mapMotor_minimum :
    (next? (exec (.mapMotor 0) (runWith 0x07 0 .start 0x80000000 0))).map (fun t => (t.result0, t.status.clamped)) =
      some (0xFFFFF001, true) := by decide

-- L2 section 10
theorem test_init_ready : (next? (exec (.init 0) (runAt 0x01 0 .start))).map (fun t => (t.seq, t.bus.breq)) =
    some (.idle, false) := by decide
theorem test_init_first_request :
    (next? (exec (.init 0) (notReady (runAt 0x01 0 .start)))).map (fun t => (t.seq, t.bus)) =
      some (.run .initWake, { breq := true, kind := .write1, reg := 0x00, data := 0x00 }) := by decide
theorem test_setFreq_sleep_write :
    (next? (exec (.setFreq 0)
      { runWith 0x03 0 (.freq .read) 0x00310000 0 with
        unitP := { old := 0xA1, pscb := 0x7C, settle := 0, initpend := false } })).map (fun t => t.bus) =
      some { breq := true, kind := .write1, reg := 0x00, data := 0x31 } := by decide
theorem test_setFreq_result :
    (next? (exec (.setFreq 0)
      { runWith 0x03 0 (.freq .restart) 0x00310000 0 with
        unitP := { old := 0xA1, pscb := 0x7C, settle := 0, initpend := false } })).map
      (fun t => (t.result0, t.result1, t.seq)) = some (124, 0x7C, .idle) := by decide
theorem test_setFreqPreset_first_request :
    (next? (exec (.setFreqPreset .f) (runAt 0x0B 5 .start))).map (fun t => t.bus) =
      some { breq := true, kind := .write1, reg := 0x00, data := 0x00 } := by decide
theorem test_setFreqPreset_byte :
    (next? (exec (.setFreqPreset .f) (runAt 0x0B 5 .presetMode1))).map (fun t => (t.unitP.pscb, t.bus.kind)) =
      some (0x77, .read1) := by decide

-- L2 section 3
theorem test_setChannel_frame :
    (next? (exec (.setChannel 5) (runWith 0x04 5 .start 0 5000))).map (fun t => (t.bus, t.status.clamped)) =
      some ({ breq := true, kind := .write4, reg := 0x1A, data := 0x0FFF0000 }, true) := by decide
theorem test_setChannel_ignored :
    (next? (exec (.setChannel (-1)) (notReady (runWith 0x04 0xFF .start 0 307)))).map
      (fun t => (t.bus.breq, t.result1, t.status.word)) = some (false, 307, 0x00000204) := by decide

-- L2 section 6
theorem test_servo_90 :
    (next? (exec (.servo 3) (runWith 0x08 3 .start 90 0))).map (fun t => (t.bus.reg, t.bus.data)) =
      some (0x12, 0x01330000) := by decide
theorem test_servo_negative :
    (next? (exec (.servo 3) (runWith 0x08 3 .start 0xFFFFFFFF 0))).map (fun t => (t.bus.reg, t.bus.data)) =
      some (0x12, 0x00650000) := by decide
theorem test_servoRange_497 :
    (next? (exec (.servoRange 3)
      { runAt 0x09 3 .start with snap := { a0 := 1, a1 := 500, a2 := 100, a3 := 0, a4 := 0 } })).map
      (fun t => t.bus.data) = some 0x01F10000 := by decide
theorem test_servoRange_below :
    (next? (exec (.servoRange 16)
      { runAt 0x09 16 .start with snap := { a0 := 90, a1 := 0xFFFFFED4, a2 := 0xFFFFFF9C, a3 := 0, a4 := 0 } })).map
      (fun t => (t.result0, t.status.word)) = some (0, 0x00000A06) := by decide

-- L2 section 7
theorem test_motor_reverse_first :
    (next? (exec (.motor .p1) (runWith 0x0A 1 .start 0xFFFFFED4 0))).map (fun t => (t.bus.reg, t.bus.data, t.status.clamped)) =
      some (0x26, 0x0FFF0000, true) := by decide
theorem test_motor_second :
    (next? (exec (.motor .p1) (runWith 0x0A 1 .chanFirst 0xFFFFFED4 0))).map (fun t => (t.bus.reg, t.bus.data)) =
      some (0x2A, 0x00000000) := by decide

-- L2 section 9: the falling sample k = 68 after the first high sample k = 10; the timeout
theorem test_ultrasonic_width :
    (next? (exec (.ultrasonic 0) { runAt 0x0C 0 .echo with unitU := { uph := .high, ut := 68, ua := 10 } })).map
      (fun t => (t.result0, t.result1, t.seq)) = some (1, 58, .idle) := by decide
theorem test_ultrasonic_timeout :
    (next? (exec (.ultrasonic 0) { runAt 0x0C 0 .echo with unitU := { uph := .waitHigh, ut := 29000, ua := 0 } })).map
      (fun t => (t.result0, t.result1, t.status.word)) = some (0, 0, 0x00000406) := by decide

-- L2 section 8: the channel drive; 56 edges in the last window, the last sample being no edge
theorem test_freqDetect_drive :
    (next? (exec (.freqDetect 2) (runAt 0x0D 2 .start))).map (fun t => (t.bus.reg, t.bus.data)) =
      some (0x0E, 0x0FFF0000) := by decide
theorem test_freqDetect_last_sample :
    (next? (exec (.freqDetect 2)
      { runAt 0x0D 2 .sample with unitF := { fk := 1999, fph := 999, ec := 56, prev := some true } })).map
      (fun t => (t.result0, t.result1, t.seq)) = some (65, 54, .idle) := by decide

-- L2 section 11: a CMD write while busy; RSV over OP; W1C of everything
theorem test_reject_while_waiting :
    (next? (step (withHost (waiting (runWith 0x03 0 (.freq .prescale) 1 0) false) (.write 0 0x00000000)))).map
      (fun t => t.status.word) = some 0x0000001B := by decide
theorem test_reject_reserved_first :
    (next? (step (hostCycle (.write 0 0x00FF0010)))).map (fun t => t.status.word) = some 0x00000028 := by decide
theorem test_w1c :
    (next? (step (withHost
      { State.reset with
        status := { busy := false, ready := true, done := true, err := true, errcode := 5, pscOor := true, chIgn := true,
                    noEcho := true, clamped := true, ovf := true } } (.write 4 0x00001F04)))).map
      (fun t => t.status.word) = some 0x0000005A := by decide
theorem test_read_lastPsc :
    (next? (step (withHost { State.reset with lastPsc := { valid := true, psc := 0x79 } } (.read 0x27)))).map
      (fun t => t.rdata) = some (some 0x00000179) := by decide

/-! ## Programs: the examples of R109 and the words of spec/95_test_vectors.md P1 -/

theorem test_inline_servo :
    (inlineForm .servo [3, 90]).map (List.map HostLine.access) =
      some [.write 0x08 0x0000005A, .write 0x00 0x00000308, .read 0x04] := by decide
theorem test_inline_setFreq :
    (inlineForm .setFreq [hz 50]).map (List.map HostLine.access) =
      some [.write 0x08 0x00320000, .write 0x00 0x00000003, .read 0x04] := by decide

theorem test_inline_badPort :
    (inlineForm .motor [4, 50]).map (List.map HostLine.access) =
      some [.write 0x08 0x00000032, .write 0x00 0x0000040A, .read 0x04] := by decide

/-! ## Witnesses of the statements' hypotheses -/

theorem witness_DecodeOfEncode : (Instr.setChannel (-128)).WellFormed ∧ (Instr.freqDetect 127).WellFormed := by decide

theorem witness_EncodeOfDecode : decodeWord 0x0000FF04 = .ok (.setChannel (-1)) := by decide

theorem witness_ReservedAndIllegalWordsRejected :
    State.reset.status.busy = false ∧ (0x00010000 : Word).extractLsb' 16 16 ≠ 0 ∧
    ((0x0000000E : Word).extractLsb' 16 16 = 0 ∧ 0x0E ≤ ((0x0000000E : Word).extractLsb' 0 8).toNat) ∧
    ((0x0000FFFF : Word).extractLsb' 16 16 = 0 ∧ 0x0E ≤ ((0x0000FFFF : Word).extractLsb' 0 8).toNat) := by decide

theorem witness_RstOverridesEverything :
    ({ runAt 0x03 0 (.freq .settle) with env := [{ quietInput with rst := true }] } : State).input.rst = true := by decide

theorem witness_StepRunsLatchedCommand :
    let s := runAt 0x08 3 .start
    s.input.rst = false ∧ s.status.busy = true ∧ s.seq = .run .start ∧ s.latched = .ok (.servo 3) := by decide

theorem witness_PlacedCommandRunsNext : decodeTableWord 32 0x00000308 = some (.servo 3) := by decide

theorem witness_IdleCycleOnlyServesHost :
    let s := hostCycle (.write 0 0x00000308)
    s.input.rst = false ∧ s.seq = .idle := by decide

theorem witness_HostReadMap (off : BitVec 6) :
    let s := hostCycle (.read off)
    s.hostAccesses (.read off) ∧ ∃ t, step s = .next t := ⟨⟨rfl, rfl⟩, _, rfl⟩

theorem witness_HostWriteMap (k : Nat) (h2 : 2 ≤ k) (h15 : k ≤ 15) (v : Word) :
    ∃ off : BitVec 6, (hostCycle (.write off v)).hostAccesses (.write off v) ∧ (hostCycle (.write off v)).isIdle ∧
      off.toNat / 4 = k ∧ 2 ≤ off.toNat / 4 :=
  ⟨BitVec.ofNat 6 (4 * k), ⟨rfl, rfl⟩, ⟨rfl, rfl⟩, by simp; omega, by simp; omega⟩

/-- A write to an operand register and one to a read-only register while a command runs and completes. -/
theorem witness_HostWriteMap_running (off : BitVec 6) (v : Word) (h : off = 0x08 ∨ off = 0x1C) :
    let s := withHost (runAt 0x00 0 .start) (.write off v)
    s.hostAccesses (.write off v) ∧ 2 ≤ off.toNat / 4 ∧ s.status.busy = true ∧ s.seq = .run .start ∧
      s.latched = .ok (.nop 0) ∧ ∃ t, step s = .next t := by
  rcases h with rfl | rfl <;> exact ⟨⟨rfl, rfl⟩, by decide, rfl, rfl, rfl, _, rfl⟩

theorem witness_StatusWriteClears (v : Word) :
    (hostCycle (.write 0x07 v)).hostAccesses (.write 0x07 v) ∧ (hostCycle (.write 0x07 v)).isIdle ∧
      (0x07 : BitVec 6).toNat / 4 = 1 := ⟨⟨rfl, rfl⟩, ⟨rfl, rfl⟩, rfl⟩

theorem witness_SetBeatsClear :
    let s := withHost (runAt 0x00 0 .start) (.write 4 0x4)
    s.hostAccesses (.write 4 0x4) ∧ (4 : BitVec 6).toNat / 4 = 1 ∧ s.status.busy = true ∧ s.seq ≠ .idle ∧
      s.latched = .ok (.nop 0) ∧
      (∃ t, step s = .next t ∧ t.status.busy = false) ∧
      ∃ u, exec (.nop 0) { s with status := s.status.w1c 0x4, rdata := none } = .next u :=
  ⟨⟨rfl, rfl⟩, rfl, rfl, by decide, rfl, ⟨_, rfl, rfl⟩, _, rfl⟩

theorem witness_RequestValidationOrder : (0 : BitVec 6).toNat / 4 = 0 ∧ (3 : BitVec 6).toNat / 4 = 0 := by decide

theorem witness_AcceptedCommandIsLatched :
    let s := hostCycle (.write 3 0x00000308)
    s.hostAccesses (.write 3 0x00000308) ∧ (3 : BitVec 6).toNat / 4 = 0 ∧ s.requestCode 0x00000308 = none :=
  ⟨⟨rfl, rfl⟩, rfl, by decide⟩

theorem witness_RejectionIsPrecise :
    let s := hostCycle (.write 0 0x0000040A)
    s.hostAccesses (.write 0 0x0000040A) ∧ (0 : BitVec 6).toNat / 4 = 0 ∧ s.seq = .idle ∧
      s.requestCode 0x0000040A = some 4 := ⟨⟨rfl, rfl⟩, rfl, rfl, by decide⟩

/-- Both clauses, the first while a command runs. -/
theorem witness_FirstRejectionWins :
    let s := withHost (runAt 0x00 0 .start) (.write 0 0x00000000)
    let s' := withHost { State.reset with status := { State.reset.status with err := true, errcode := 5 } }
      (.write 0 0x0000090B)
    (s.hostAccesses (.write 0 0x00000000) ∧ s.requestCode 0x00000000 = some 1 ∧ s.status.err = false ∧
      ∃ t, step s = .next t) ∧
    s'.hostAccesses (.write 0 0x0000090B) ∧ s'.requestCode 0x0000090B = some 4 ∧ s'.status.err = true ∧
      ∃ t, step s' = .next t :=
  ⟨⟨⟨rfl, rfl⟩, by decide, rfl, _, rfl⟩, ⟨rfl, rfl⟩, by decide, rfl, _, rfl⟩

theorem witness_HostCannotDisturbRunningCommand :
    let s := runAt 0x00 0 .start
    let s' := withHost s (.write 8 0x12345678)
    SameExecution s s' ∧ s.masks = s'.masks ∧ s.cycle = s'.cycle ∧ s.env = quietInput :: [] ∧
      s'.env = { quietInput with host := some (.write 8 0x12345678) } :: [] ∧ quietInput.rst = false ∧
      s.status.busy = true ∧ s.seq ≠ .idle ∧ ∃ t, step s = .next t :=
  ⟨by simp [SameExecution, withHost], rfl, rfl, rfl, rfl, rfl, rfl, by decide, _, rfl⟩

theorem witness_BusHandshake (back : Bool) :
    let s := waiting (runAt 0x03 0 (.freq .prescale)) back
    s.seq = .run (.freq .prescale) ∧ s.bus.breq = true ∧ s.input.back = back ∧ Memory.wf s.chip = true :=
  ⟨rfl, rfl, rfl, rfl⟩

theorem witness_RequestStableUntilAck :
    let s := waiting (runWith 0x03 0 (.freq .prescale) 1 0) false
    s.input.rst = false ∧ s.input.back = false ∧ s.status.busy = true ∧ s.seq ≠ .idle ∧ s.bus.breq = true ∧
      ∃ t, step s = .next t := ⟨rfl, rfl, rfl, by decide, rfl, _, rfl⟩

theorem witness_UnacknowledgedRequestBlocks :
    let s := { waiting (runAt 0x03 0 (.freq .prescale)) false with env := [quietInput, quietInput, quietInput] }
    s.seq = .run (.freq .prescale) ∧ s.latched = .ok (.setFreq 0) ∧ s.bus.breq = true ∧ s.status.busy = true ∧
      3 ≤ s.env.length ∧ ∀ x ∈ s.env.take 3, Quiet x ∧ x.back = false :=
  ⟨rfl, rfl, rfl, rfl, by decide, by simp [Quiet, quietInput]⟩

/-- A running SET_FREQ whose PRESCALE write is acknowledged in this cycle; the invariant holds there. -/
def ackState : State := waiting (runWith 0x03 0 (.freq .prescale) 1 0) true

theorem ackState_busOk : BusOk ackState := by
  refine ⟨⟨.inr rfl, by decide⟩, rfl, ?_, fun _ => rfl⟩
  intro c hc
  cases hc

theorem witness_RequestsStayInChipMap : BusOk ackState ∧ ∃ t, step ackState = .next t := ⟨ackState_busOk, _, rfl⟩

theorem witness_PrescaleFormula : (1 ≤ 1 ∧ 1 < 2 ^ 32) ∧ (1 ≤ 2 ^ 32 - 1 ∧ 2 ^ 32 - 1 < 2 ^ 32) := by decide

theorem witness_ClampTickSaturates :
    (-1 : Int) < 0 ∧ (4095 : Int) < 4096 ∧ (0 : Int) ≤ 0 ∧ (0 : Int) ≤ 4095 ∧ (4095 : Int) ≤ 4095 := by decide

theorem witness_MotorSpeedSaturates :
    (-255 : Int) ≤ -255 ∧ (255 : Int) ≤ 255 ∧ (256 : Int) ≤ 256 ∧ (-256 : Int) ≤ -256 := by decide

theorem witness_ClassifyTable : (54 : Int) ≤ 54 ∧ (48 : Int) ≤ 48 := by decide

theorem witness_FrameLayout : ((0 : Int) ≤ 0 ∧ (0 : Int) ≤ 15) ∧ ((0 : Int) ≤ 15 ∧ (15 : Int) ≤ 15) := by decide

/-- Both clauses: q = 205.5 and q = -23.33... -/
theorem witness_MapLinearTruncates :
    ((0 : Int) ≠ 180 ∧ 0 ≤ ((45 : ℚ) - 0) * (510 - 104) / (180 - 0) + 104) ∧
    ((0 : Int) ≠ 3 ∧ ((7 : ℚ) - 0) * (-10 - 0) / (3 - 0) + 0 ≤ 0) := by norm_num

theorem witness_MapperLaws :
    ((0 : Int) < 180 ∧ (104 : Int) < 510 ∧ (45 : Int) ≤ 90) ∧ ((0 : Int) < 180 ∧ (104 : Int) < 510 ∧ (45 : Int) ≤ 45) ∧
      (0 : Int) ≠ 180 ∧ (-256 : Int) ≤ 255 := by decide

theorem witness_PureCommandsComplete :
    let s := runWith 0x06 0 .start 1 2
    s.resumesAt .start ∧ s.snap.a0 ≠ 0 ∧ s.snap.a1 ≠ s.snap.a2 := ⟨⟨rfl, rfl⟩, by decide, by decide⟩

theorem witness_PureCommandsTakeOneCycle :
    let x : CycleInput := { quietInput with host := some (.write 0 0x00000005) }
    let s : State := { State.reset with env := x :: quietInput :: [] }
    s.isIdle ∧ s.bus.breq = false ∧ x.rst = false ∧ Quiet quietInput ∧ decodeWord 0x00000005 = .ok (.clampTick 0) ∧
      divZeroOperands (.clampTick 0) s.arg = false ∧ isPure (.clampTick 0) = true :=
  ⟨⟨rfl, rfl⟩, rfl, rfl, ⟨rfl, rfl⟩, by decide, rfl, rfl⟩

theorem witness_StopsOutsideAcceptedCommands :
    State.reset.seq = .idle ∧
    ((runAt 0x06 0 .start).resumesAt .start ∧ divZeroOperands (.mapLinear 0) (runAt 0x06 0 .start).snap = true ∧
      divZeroOperands (.calcPrescale 0) (runAt 0x02 0 .start).snap = true ∧
      (runAt 0x03 0 (.freq .settle)).resumesAt (.freq .settle) ∧
      divZeroOperands (.setFreq 0) (runAt 0x03 0 (.freq .settle)).snap = true) ∧
    ((runAt 0x00 0 .echo).resumesAt .echo ∧ divZeroOperands (.nop 0) (runAt 0x00 0 .echo).snap = false ∧
      hasPosition (.nop 0) (runAt 0x00 0 .echo).unitP.initpend .echo = false) ∧
    (let s := runAt 0x0E 0 .start;
      s.input.rst = false ∧ s.status.busy = true ∧ s.seq = .run .start ∧ s.latched = .error .illegalOp) ∧
    (let s := hostCycle (.write 3 0x00000308);
      s.hostAccesses (.write 3 0x00000308) ∧ (3 : BitVec 6).toNat / 4 = 0 ∧ s.requestCode 0x00000308 = none ∧
        ∃ t, step s = .next t ∧ t.bus.breq = false) :=
  ⟨rfl, ⟨⟨rfl, rfl⟩, rfl, rfl, ⟨rfl, rfl⟩, rfl⟩, ⟨⟨rfl, rfl⟩, rfl, rfl⟩, ⟨rfl, rfl, rfl, rfl⟩,
    ⟨⟨rfl, rfl⟩, rfl, by decide, _, rfl, rfl⟩⟩

theorem witness_PureCommandsFrame :
    isPure (.mapMotor 0) = true ∧ (runAt 0x07 0 .start).bus.breq = false ∧
      ∃ t, exec (.mapMotor 0) (runAt 0x07 0 .start) = .next t := ⟨rfl, rfl, _, rfl⟩

theorem witness_EnsureReadyRunsFirst :
    usesInit (.servo 3) = true ∧ divZeroOperands (.servo 3) (runAt 0x08 3 .start).snap = false ∧
      ((notReady (runAt 0x08 3 .start)).resumesAt .start ∧ (notReady (runAt 0x08 3 .start)).status.ready = false) ∧
      (notReady (runAt 0x08 3 .initWake)).resumesAt .initWake := ⟨rfl, rfl, ⟨⟨rfl, rfl⟩, rfl⟩, rfl, rfl⟩

theorem witness_CommandsWithoutInitIssueNothing :
    usesInit (.setChannel 16) = false ∧ (runAt 0x04 16 .start).bus.breq = false ∧
      ∃ t, exec (.setChannel 16) (runAt 0x04 16 .start) = .next t := ⟨rfl, rfl, _, rfl⟩

/-- Inside ensureReady's setFreqSeq and inside the command's own, at every position, and SETTLE on both sides of its end. -/
theorem witness_FrequencySequenceOrder (p : FreqPos) (b : Bool) :
    let s : State :=
      { runWith 0x03 0 (.freq p) 1 0 with unitP := { old := 0, pscb := 0, settle := 1, initpend := b } }
    let s' : State := { s with unitP := { s.unitP with settle := 2 } }
    InFreqSeq (.setFreq 0) s ∧ s.resumesAt (.freq p) ∧ s.unitP.settle.toNat ≤ 1 ∧
      InFreqSeq (.setFreq 0) s' ∧ s'.resumesAt (.freq p) ∧ 1 < s'.unitP.settle.toNat := by
  cases b <;> exact ⟨⟨rfl, rfl⟩, ⟨rfl, rfl⟩, Nat.le_refl 1, ⟨rfl, rfl⟩, ⟨rfl, rfl⟩, Nat.lt_succ_self 1⟩

/-- A cycle that acknowledges a request and brings byte 0 for a read. -/
def ackInput : CycleInput := { quietInput with back := true }

/-- A cycle with ECHO_IN = 1. -/
def echoInput : CycleInput := { quietInput with echoIn := true }

theorem quiet_quietInput : Quiet quietInput := ⟨rfl, rfl⟩
theorem quiet_ackInput : Quiet ackInput := ⟨rfl, rfl⟩
theorem quiet_echoInput : Quiet echoInput := ⟨rfl, rfl⟩

/-- The shortest acknowledgement, L = 1. -/
theorem ackRun_one : AckRun [ackInput] := ⟨[], ackInput, rfl, by simp, quiet_ackInput, rfl⟩

/-- A longer one, L = 3. -/
theorem ackRun_three : AckRun [quietInput, quietInput, ackInput] :=
  ⟨[quietInput, quietInput], ackInput, rfl, by simp [Quiet, quietInput], quiet_ackInput, rfl⟩

theorem brings_zero : Brings [ackInput] 0 := rfl

theorem witness_SettleGap :
    let l := List.replicate 5001 quietInput
    let s : State :=
      { runWith 0x03 0 (.freq .restore) 1 0 with
        bus := { breq := true, kind := .write1, reg := 0, data := 0 }, env := (ackInput :: l) ++ [] }
    s.seq = .run (.freq .restore) ∧ s.bus.breq = true ∧ s.latched = .ok (.setFreq 0) ∧ InFreqSeq (.setFreq 0) s ∧
      s.status.busy = true ∧ s.bus.kind = .write1 ∧ Quiet ackInput ∧ ackInput.back = true ∧ (∀ y ∈ l, Quiet y) ∧
      l.length = 5001 :=
  ⟨rfl, rfl, rfl, ⟨rfl, rfl⟩, rfl, rfl, quiet_ackInput, rfl,
    fun _ h => List.eq_of_mem_replicate h ▸ quiet_quietInput, List.length_replicate⟩

/-- Both ways in which ensureReady returns. -/
theorem witness_InitCompletes :
    ReturnsFromEnsureReady (runAt 0x01 0 .start) (runAt 0x01 0 .start) ∧
    ∃ t, ReturnsFromEnsureReady
      { notReady (runAt 0x01 0 (.freq .restart)) with unitP := { old := 0, pscb := 0x79, settle := 0, initpend := true } } t :=
  ⟨.inl ⟨⟨rfl, rfl⟩, rfl, rfl⟩, _, .inr ⟨⟨rfl, rfl⟩, rfl, rfl⟩⟩

theorem witness_SetFreqCompletes :
    let s := runWith 0x03 0 .start 1 0
    let s' := runWith 0x03 0 (.freq .restart) 1 0
    (s.snap.a0 ≠ 0 ∧ ReturnsFromEnsureReady s s) ∧
      s'.snap.a0 ≠ 0 ∧ s'.resumesAt (.freq .restart) ∧ s'.unitP.initpend = false :=
  ⟨⟨by decide, .inl ⟨⟨rfl, rfl⟩, rfl, rfl⟩⟩, by decide, ⟨rfl, rfl⟩, rfl⟩

theorem witness_SetFreqPresetCompletes :
    ReturnsFromEnsureReady (runAt 0x0B 0 .start) (runAt 0x0B 0 .start) ∧
      (runAt 0x0B 0 .presetMode1).resumesAt .presetMode1 ∧
      (runAt 0x0B 0 (.freq .restart)).resumesAt (.freq .restart) ∧
      (runAt 0x0B 0 (.freq .restart)).unitP.initpend = false :=
  ⟨.inl ⟨⟨rfl, rfl⟩, rfl, rfl⟩, ⟨rfl, rfl⟩, ⟨rfl, rfl⟩, rfl⟩

theorem witness_InitRunsToReady :
    let w := List.replicate 5000 quietInput
    let l := [ackInput]
    let q := quietInput
    let s : State :=
      { notReady (runAt 0x01 0 .start) with
        env := (q :: l) ++ ((q :: l) ++ ((q :: l) ++ ((q :: l) ++ ((q :: l) ++ ((q :: w) ++ (l ++ (q :: []))))))) }
    s.resumesAt .start ∧ s.latched = .ok (.init 0) ∧ s.status.busy = true ∧ s.status.ready = false ∧
      (∀ x ∈ [q, q, q, q, q, q, q], Quiet x) ∧ (∀ x ∈ w, Quiet x) ∧ w.length = 5000 ∧ AckRun l ∧ Brings l 0 :=
  ⟨⟨rfl, rfl⟩, rfl, rfl, rfl, by simp [quiet_quietInput], fun _ h => List.eq_of_mem_replicate h ▸ quiet_quietInput,
    List.length_replicate, ackRun_one, brings_zero⟩

theorem witness_SetChannelCompletes :
    (runAt 0x04 0xFF .start).resumesAt .start ∧ ((-1 : Int) < 0 ∨ 15 < (-1 : Int)) ∧ ((16 : Int) < 0 ∨ 15 < (16 : Int)) ∧
      ReturnsFromEnsureReady (runAt 0x04 15 .start) (runAt 0x04 15 .start) ∧ (0 : Int) ≤ 15 ∧ (15 : Int) ≤ 15 ∧
      (runAt 0x04 0 .chanFirst).resumesAt .chanFirst ∧ (0 : Int) ≤ 0 :=
  ⟨⟨rfl, rfl⟩, by decide, by decide, .inl ⟨⟨rfl, rfl⟩, rfl, rfl⟩, by decide, by decide, ⟨rfl, rfl⟩, by decide⟩

theorem witness_ServoCommandsComplete :
    let s := runWith 0x08 3 .start 90 0
    let i := Instr.servo 3
    let off := servoTick s.snap.a0.toInt
    (i = .servo 3 ∧ off = servoTick s.snap.a0.toInt ∨
      i = .servoRange 3 ∧ off = servoTickRange s.snap.a0.toInt s.snap.a1.toInt s.snap.a2.toInt) ∧
      ReturnsFromEnsureReady s s ∧ (runAt 0x09 3 .chanFirst).resumesAt .chanFirst ∧ ((-1 : Int) < 0 ∨ 15 < (-1 : Int)) :=
  ⟨.inl ⟨rfl, rfl⟩, .inl ⟨⟨rfl, rfl⟩, rfl, rfl⟩, ⟨rfl, rfl⟩, by decide⟩

theorem witness_MotorCompletes :
    ReturnsFromEnsureReady (runAt 0x0A 1 .start) (runAt 0x0A 1 .start) ∧
      (runAt 0x0A 1 .chanFirst).resumesAt .chanFirst ∧ (runAt 0x0A 1 .chanSecond).resumesAt .chanSecond :=
  ⟨.inl ⟨⟨rfl, rfl⟩, rfl, rfl⟩, ⟨rfl, rfl⟩, rfl, rfl⟩

theorem witness_SetChannelRunsToCompletion :
    let l := [quietInput, quietInput, ackInput]
    let s : State := { runWith 0x04 15 .start 0 307 with env := (quietInput :: l) ++ (quietInput :: []) }
    (0 : Int) ≤ 15 ∧ (15 : Int) ≤ 15 ∧ s.resumesAt .start ∧ s.latched = .ok (.setChannel 15) ∧ s.status.busy = true ∧
      s.status.ready = true ∧ Quiet quietInput ∧ AckRun l :=
  ⟨by decide, by decide, ⟨rfl, rfl⟩, by decide, rfl, rfl, quiet_quietInput, ackRun_three⟩

theorem witness_ChipCommandsFrame :
    (usesInit (.motor .p0) = true ∨ ∃ ch, Instr.motor .p0 = .setChannel ch) ∧ isFreqDetect (.motor .p0) = false ∧
      ∃ t, exec (.motor .p0) (runAt 0x0A 0 .chanSecond) = .next t := ⟨.inl rfl, rfl, _, rfl⟩

theorem witness_UltrasonicCycles :
    (runAt 0x0C 0 .start).resumesAt .start ∧ (∀ k, (runAt 0x0C 0 (.trigLow k)).resumesAt (.trigLow k)) ∧
      (∀ k, (runAt 0x0C 0 (.trigHigh k)).resumesAt (.trigHigh k)) ∧ (runAt 0x0C 0 .trigFall).resumesAt .trigFall ∧
      (∀ (ph : EchoPhase) (ut ua : BitVec 16) (e : Bool),
        let s : State :=
          { runAt 0x0C 0 .echo with
            unitU := { uph := ph, ut := ut, ua := ua }, env := [{ quietInput with echoIn := e }] }
        s.resumesAt .echo ∧ s.unitU.uph = ph ∧ s.unitU.ut = ut ∧ s.unitU.ua = ua ∧ s.input.echoIn = e) ∧
      (29000 : BitVec 16).toNat = 29000 ∧ (28999 : BitVec 16).toNat ≠ 29000 ∧
      (0 : BitVec 16).toNat ≤ (29000 : BitVec 16).toNat :=
  ⟨⟨rfl, rfl⟩, fun _ => ⟨rfl, rfl⟩, fun _ => ⟨rfl, rfl⟩, ⟨rfl, rfl⟩,
    fun _ _ _ _ => ⟨⟨rfl, rfl⟩, rfl, rfl, rfl, rfl⟩, by decide, by decide, by decide⟩

theorem witness_TriggerPulse :
    let s : State := { runAt 0x0C 0 .start with env := List.replicate 13 quietInput }
    s.resumesAt .start ∧ s.latched = .ok (.ultrasonic 0) ∧ s.status.busy = true ∧ 13 ≤ s.env.length ∧
      ∀ x ∈ s.env.take 13, Quiet x :=
  ⟨⟨rfl, rfl⟩, rfl, rfl, by decide,
    fun _ h => List.eq_of_mem_replicate (List.mem_of_mem_take h) ▸ quiet_quietInput⟩

/-- The longest echo the deadline allows: high from t0 on, low in cycle t0 + 29000. -/
theorem witness_EchoWidthCaptured :
    let highs := List.replicate 29000 echoInput
    let s : State := { runAt 0x0C 0 .trigFall with env := [] ++ (highs ++ (quietInput :: [])) }
    s.resumesAt .trigFall ∧ s.latched = .ok (.ultrasonic 0) ∧ s.status.busy = true ∧
      (∀ x ∈ ([] : List CycleInput), Quiet x ∧ x.echoIn = false) ∧ (∀ x ∈ highs, Quiet x ∧ x.echoIn = true) ∧
      Quiet quietInput ∧ quietInput.echoIn = false ∧ 1 ≤ highs.length ∧
      ([] : List CycleInput).length + highs.length ≤ 29000 :=
  ⟨⟨rfl, rfl⟩, rfl, rfl, by simp, fun _ h => List.eq_of_mem_replicate h ▸ ⟨quiet_echoInput, rfl⟩, quiet_quietInput, rfl,
    by simp only [List.length_replicate]; omega, by simp only [List.length_replicate, List.length_nil]; omega⟩

/-- The echo first seen high in the last cycle of the deadline. -/
theorem witness_EchoTimesOut :
    let lows := List.replicate 29000 quietInput
    let s : State := { runAt 0x0C 0 .trigFall with env := lows ++ ([echoInput] ++ []) }
    s.resumesAt .trigFall ∧ s.latched = .ok (.ultrasonic 0) ∧ s.status.busy = true ∧
      (∀ x ∈ lows, Quiet x ∧ x.echoIn = false) ∧ (∀ x ∈ [echoInput], Quiet x ∧ x.echoIn = true) ∧
      lows.length + [echoInput].length = 29001 :=
  ⟨⟨rfl, rfl⟩, rfl, rfl, fun _ h => List.eq_of_mem_replicate h ▸ ⟨quiet_quietInput, rfl⟩,
    by simp [Quiet, echoInput, quietInput], by simp only [List.length_replicate, List.length_cons, List.length_nil]⟩

theorem witness_FreqDetectCycles :
    ReturnsFromEnsureReady (runAt 0x0D 15 .start) (runAt 0x0D 15 .start) ∧ (0 : Int) ≤ 15 ∧ (15 : Int) ≤ 15 ∧
      ((16 : Int) < 0 ∨ 15 < (16 : Int)) ∧ (runAt 0x0D 16 .start).resumesAt .start ∧
      (runAt 0x0D 15 .chanFirst).resumesAt .chanFirst ∧
      (∀ (fk : BitVec 11) (fph : BitVec 10),
        let s : State := { runAt 0x0D 2 .sample with unitF := { fk := fk, fph := fph, ec := 0, prev := none } }
        s.resumesAt .sample ∧ s.unitF.fph = fph ∧ s.unitF.fk = fk) ∧
      (998 : BitVec 10).toNat < 999 ∧ (999 : BitVec 10).toNat = 999 ∧ (1999 : BitVec 11).toNat = 1999 ∧
      (1998 : BitVec 11).toNat < 1999 ∧ (999 : BitVec 11).toNat = 999 :=
  ⟨.inl ⟨⟨rfl, rfl⟩, rfl, rfl⟩, by decide, by decide, by decide, ⟨rfl, rfl⟩, ⟨rfl, rfl⟩,
    fun _ _ => ⟨⟨rfl, rfl⟩, rfl, rfl⟩, by decide, by decide, by decide, by decide, by decide⟩

/-- A sample period at a low level. -/
theorem samplePeriod_low : SamplePeriod false (List.replicate 1000 quietInput) :=
  ⟨List.length_replicate, fun _ h => List.eq_of_mem_replicate h ▸ quiet_quietInput,
    by rw [List.getLast?_replicate]; rfl⟩

theorem samplePeriods_low (n : Nat) :
    List.Forall₂ SamplePeriod (List.replicate n false) (List.replicate n (List.replicate 1000 quietInput)) := by
  induction n with
  | zero => exact .nil
  | succ n ih => exact .cons samplePeriod_low ih

theorem witness_FrequencyCountedOverTwoWindows :
    let v := List.replicate 1000 false
    let c := List.replicate 1000 (List.replicate 1000 quietInput)
    let s : State := { runAt 0x0D 2 .sample with env := c.flatten ++ (c.flatten ++ []) }
    s.resumesAt .sample ∧ s.unitF = { fk := 0, fph := 0, ec := 0, prev := none } ∧ s.latched = .ok (.freqDetect 2) ∧
      s.status.busy = true ∧ v.length = 1000 ∧ List.Forall₂ SamplePeriod v c :=
  ⟨⟨rfl, rfl⟩, rfl, by decide, rfl, List.length_replicate, samplePeriods_low 1000⟩

theorem witness_SensorCommandsFrame :
    (isUltrasonic (.ultrasonic 0) = true ∧ ∃ t, exec (.ultrasonic 0) (runAt 0x0C 0 .start) = .next t) ∧
    isFreqDetect (.freqDetect 16) = true ∧ ∃ t, exec (.freqDetect 16) (runAt 0x0D 16 .start) = .next t :=
  ⟨⟨rfl, _, rfl⟩, rfl, _, rfl⟩

/-- The invariant at a state of a running command, which has a next state: StepKeepsTheInvariant and StepNeverStops. -/
theorem witness_StepKeepsTheInvariant : Inv ackState ∧ ∃ t, step ackState = .next t := by
  refine ⟨⟨⟨by decide, by decide, by decide⟩, ⟨.setFreq 0, rfl, rfl, rfl, fun _ => rfl⟩,
    ⟨fun _ => by contradiction, fun _ _ _ _ => rfl⟩, ⟨fun _ => by contradiction, fun _ => by contradiction, fun _ => by contradiction⟩,
    ⟨by decide, by decide, by decide, by decide, by decide, by decide⟩, ackState_busOk⟩, _, rfl⟩

theorem witness_StepNeverStops : Inv ackState := witness_StepKeepsTheInvariant.1

theorem witness_ReadyIsOneWay :
    let s := runAt 0x00 0 .start
    s.input.rst = false ∧ s.status.ready = true ∧ ∃ t, step s = .next t := ⟨rfl, rfl, _, rfl⟩

theorem witness_BusyFallsOnlyAtCompletion :
    let s := runAt 0x00 0 .start
    s.input.rst = false ∧ s.status.busy = true ∧ ∃ t, step s = .next t ∧ t.status.busy = false :=
  ⟨rfl, rfl, _, rfl, rfl⟩

theorem witness_IdleBlockKeepsResults :
    let s := hostCycle (.write 0 0x00000308)
    s.input.rst = false ∧ s.seq = .idle ∧ ∃ t, step s = .next t := ⟨rfl, rfl, _, rfl⟩

end Sys2Proof.Tests
end

section
/-! PROOFS. What SEQ's cycle never writes, for every command, and the statement that rests on it: the capture of a rejection
code (spec/10_state.md R40). -/

namespace Sys2Proof.Machine

/-! ## What SEQ never writes -/

/-- The part of the state that SEQ's cycle never writes: HOST's operands and read data, the latch and the snapshot (R34),
the build's masks, the coming inputs, and ERR with ERRCODE, which only a rejection and HOST write (R40, R38). -/
structure SeqFrame where
  arg : Operands
  opL : Byte
  selL : Byte
  snap : Operands
  rdata : Option Word
  masks : Masks
  env : List CycleInput
  cycle : Nat
  err : Bool
  errcode : BitVec 4

/-- The frame of a state. -/
def State.seqFrame (s : State) : SeqFrame where
  arg := s.arg
  opL := s.opL
  selL := s.selL
  snap := s.snap
  rdata := s.rdata
  masks := s.masks
  env := s.env
  cycle := s.cycle
  err := s.status.err
  errcode := s.status.errcode

/-- The outcome keeps the frame: every next state it can be has `s`'s frame. -/
def KeepsFrame (s : State) (r : Result) : Prop := ∀ t, r = .next t → t.seqFrame = s.seqFrame

theorem KeepsFrame.next {s t : State} (h : t.seqFrame = s.seqFrame) : KeepsFrame s (.next t) := by
  rintro _ ⟨⟩; exact h

theorem KeepsFrame.fault (s : State) (r : Fault) : KeepsFrame s (.fault r) := by
  intro t h
  cases h

theorem KeepsFrame.trans {s t : State} {r : Result} (h : t.seqFrame = s.seqFrame) (hr : KeepsFrame t r) :
    KeepsFrame s r := fun u hu => (hr u hu).trans h

/-! ## The updates with more than one outcome -/

theorem State.busCycle_seqFrame (s : State) : s.busCycle.seqFrame = s.seqFrame := by
  rcases busCycle_cases s with ⟨-, h⟩ | ⟨-, h⟩ <;> rw [h]
  rfl

theorem State.settleCycle_seqFrame (s : State) : s.settleCycle.seqFrame = s.seqFrame := by
  unfold State.settleCycle
  split <;> rfl

theorem State.freqMove_seqFrame (p : FreqPos) (s : State) : (s.freqMove p).seqFrame = s.seqFrame := by
  cases p with
  | settle => exact s.settleCycle_seqFrame
  | _ => rfl

theorem State.echoDeadline_seqFrame (s : State) : s.echoDeadline.seqFrame = s.seqFrame := by
  unfold State.echoDeadline
  split <;> rfl

theorem State.echoCycle_seqFrame (s : State) : s.echoCycle.seqFrame = s.seqFrame := by
  unfold State.echoCycle
  split
  · exact State.echoDeadline_seqFrame _
  · split
    · rfl
    · exact s.echoDeadline_seqFrame

theorem State.afterSample_seqFrame (s : State) : s.afterSample.seqFrame = s.seqFrame := by
  unfold State.afterSample
  split <;> split <;> rfl

theorem State.sampleCycle_seqFrame (s : State) : s.sampleCycle.seqFrame = s.seqFrame := by
  unfold State.sampleCycle
  split
  · rfl
  · exact State.afterSample_seqFrame _

/-! ## The shared operations -/

theorem running_keepsFrame {s : State} {body : SeqPos → Result} (h : ∀ p, KeepsFrame s (body p)) :
    KeepsFrame s (running s body) := by
  intro t ht
  rcases running_next ht with ⟨_, -, -, rfl⟩ | ⟨p, -, hp⟩
  · exact s.busCycle_seqFrame
  · exact h p t hp

theorem freqResume_keepsFrame {f : FreqPos} {s : State} {after : State → Result} (h : KeepsFrame s (after s)) :
    KeepsFrame s (freqResume f s after) := by
  intro t ht
  rcases freqResume_next ht with ⟨-, ht⟩ | ⟨-, rfl⟩
  · exact h t ht
  · exact s.freqMove_seqFrame f

theorem emitChannel_keepsFrame {ch on off : Int} {p : SeqPos} {s : State} {after : State → Result}
    (h : ∀ u, KeepsFrame u (after u)) : KeepsFrame s (emitChannel ch on off p s after) := by
  intro t ht
  rcases emitChannel_next ht with ⟨-, rfl⟩ | ⟨-, ht⟩
  · rfl
  · exact h ((s.raiseClamped _).raiseChIgn true) t ht

theorem chipCommand_keepsFrame {p : SeqPos} {s : State} {body : State → Result} {own : SeqPos → Result}
    (hbody : ∀ u, KeepsFrame u (body u)) (hown : ∀ q, KeepsFrame s (own q)) :
    KeepsFrame s (chipCommand p s body own) := by
  intro t ht
  rcases chipCommand_next ht with
    ⟨-, -, rfl⟩ | ⟨-, -, ht⟩ | ⟨-, rfl⟩ | ⟨f, -, -, -, rfl⟩ | ⟨-, -, ht⟩ | ⟨-, -, -, ht⟩
  · rfl
  · exact hbody s t ht
  · rfl
  · exact s.freqMove_seqFrame f
  · exact hbody s.initDone t ht
  · exact hown p t ht

/-! ## The commands -/

theorem execNop_keepsFrame (s : State) : KeepsFrame s (execNop s) := by
  refine running_keepsFrame fun p => ?_
  cases p with
  | start => exact .next rfl
  | _ => exact .fault _ _

theorem execInit_keepsFrame (s : State) : KeepsFrame s (execInit s) :=
  running_keepsFrame fun _ => chipCommand_keepsFrame (fun _ => .next rfl) fun _ => .fault _ _

theorem execCalcPrescale_keepsFrame (s : State) : KeepsFrame s (execCalcPrescale s) := by
  refine running_keepsFrame fun p => ?_
  cases p with
  | start =>
    dsimp only
    split
    · exact .fault _ _
    · exact .next rfl
  | _ => exact .fault _ _

theorem execSetFreq_keepsFrame (s : State) : KeepsFrame s (execSetFreq s) := by
  refine running_keepsFrame fun p => ?_
  split
  · exact .fault _ _
  · refine chipCommand_keepsFrame (fun _ => .next rfl) fun q => ?_
    cases q with
    | freq f => exact freqResume_keepsFrame (.next rfl)
    | _ => exact .fault _ _

theorem setChannelBody_keepsFrame (ch : Int) (s : State) : KeepsFrame s (setChannelBody ch s) := by
  unfold setChannelBody
  exact emitChannel_keepsFrame fun _ => .next rfl

theorem execSetChannel_keepsFrame (ch : Int) (s : State) : KeepsFrame s (execSetChannel ch s) := by
  refine running_keepsFrame fun p => ?_
  split
  · refine chipCommand_keepsFrame (setChannelBody_keepsFrame ch) fun q => ?_
    cases q with
    | chanFirst => exact .next rfl
    | _ => exact .fault _ _
  · cases p with
    | start => exact setChannelBody_keepsFrame ch s
    | _ => exact .fault _ _

theorem execClampTick_keepsFrame (s : State) : KeepsFrame s (execClampTick s) := by
  refine running_keepsFrame fun p => ?_
  cases p with
  | start => exact .next rfl
  | _ => exact .fault _ _

theorem execMapLinear_keepsFrame (s : State) : KeepsFrame s (execMapLinear s) := by
  refine running_keepsFrame fun p => ?_
  cases p with
  | start =>
    dsimp only
    split
    · exact .fault _ _
    · exact .next rfl
  | _ => exact .fault _ _

theorem execMapMotor_keepsFrame (s : State) : KeepsFrame s (execMapMotor s) := by
  refine running_keepsFrame fun p => ?_
  cases p with
  | start => exact .next rfl
  | _ => exact .fault _ _

theorem servoCommand_keepsFrame (ch off : Int) (s : State) : KeepsFrame s (servoCommand ch off s) := by
  refine running_keepsFrame fun p =>
    chipCommand_keepsFrame (fun _ => emitChannel_keepsFrame fun _ => .next rfl) fun q => ?_
  cases q with
  | chanFirst =>
    dsimp only
    split
    · exact .next rfl
    · exact .fault _ _
  | _ => exact .fault _ _

theorem motorSecond_keepsFrame (port : MotorPort) (s : State) : KeepsFrame s (motorSecond port s) := by
  unfold motorSecond
  exact emitChannel_keepsFrame fun _ => .next rfl

theorem motorFirst_keepsFrame (port : MotorPort) (s : State) : KeepsFrame s (motorFirst port s) :=
  .trans (t := s.raiseClamped _) rfl (emitChannel_keepsFrame (motorSecond_keepsFrame port))

theorem execMotor_keepsFrame (port : MotorPort) (s : State) : KeepsFrame s (execMotor port s) := by
  refine running_keepsFrame fun p => chipCommand_keepsFrame (motorFirst_keepsFrame port) fun q => ?_
  cases q with
  | chanFirst => exact motorSecond_keepsFrame port s
  | chanSecond => exact .next rfl
  | _ => exact .fault _ _

theorem execSetFreqPreset_keepsFrame (preset : Preset) (s : State) :
    KeepsFrame s (execSetFreqPreset preset s) := by
  refine running_keepsFrame fun p => chipCommand_keepsFrame (fun _ => .next rfl) fun q => ?_
  cases q with
  | presetMode1 => exact .next rfl
  | freq f => exact freqResume_keepsFrame (.next rfl)
  | _ => exact .fault _ _

theorem execUltrasonic_keepsFrame (s : State) : KeepsFrame s (execUltrasonic s) := by
  refine running_keepsFrame fun p => ?_
  cases p with
  | start => exact .next rfl
  | trigLow k => cases k <;> exact .next rfl
  | trigHigh k => cases k <;> exact .next rfl
  | trigFall => exact .next (State.echoCycle_seqFrame _)
  | echo => exact .next s.echoCycle_seqFrame
  | _ => exact .fault _ _

theorem freqDetectBody_keepsFrame (ch : Int) (s : State) : KeepsFrame s (freqDetectBody ch s) := by
  unfold freqDetectBody
  exact emitChannel_keepsFrame fun _ => .next rfl

theorem execFreqDetect_keepsFrame (ch : Int) (s : State) : KeepsFrame s (execFreqDetect ch s) := by
  refine running_keepsFrame fun p => ?_
  split
  · exact .next s.sampleCycle_seqFrame
  · split
    · refine chipCommand_keepsFrame (freqDetectBody_keepsFrame ch) fun q => ?_
      cases q with
      | chanFirst => exact .next rfl
      | _ => exact .fault _ _
    · split
      · exact freqDetectBody_keepsFrame ch s
      · exact .fault _ _

/-- SEQ's cycle of every command keeps the frame. -/
theorem exec_keepsFrame (i : Instr) (s : State) : KeepsFrame s (exec i s) := by
  cases i with
  | nop _ => exact execNop_keepsFrame s
  | init _ => exact execInit_keepsFrame s
  | calcPrescale _ => exact execCalcPrescale_keepsFrame s
  | setFreq _ => exact execSetFreq_keepsFrame s
  | setChannel ch => exact execSetChannel_keepsFrame ch s
  | clampTick _ => exact execClampTick_keepsFrame s
  | mapLinear _ => exact execMapLinear_keepsFrame s
  | mapMotor _ => exact execMapMotor_keepsFrame s
  | servo ch => exact servoCommand_keepsFrame ch _ s
  | servoRange ch => exact servoCommand_keepsFrame ch _ s
  | motor port => exact execMotor_keepsFrame port s
  | setFreqPreset preset => exact execSetFreqPreset_keepsFrame preset s
  | ultrasonic _ => exact execUltrasonic_keepsFrame s
  | freqDetect ch => exact execFreqDetect_keepsFrame ch s

/-- A step in which no command is accepted leaves ERR and ERRCODE as the HOST access left them. -/
theorem step_err_of_not_accepted {s t : State} (hr : s.input.rst = false)
    (ha : (s.hostAccess s.input.host).2 = false) (h : step s = .next t) :
    t.status.err = (s.hostAccess s.input.host).1.status.err ∧
      t.status.errcode = (s.hostAccess s.input.host).1.status.errcode := by
  rcases step_next hr h with ⟨_, hacc, -⟩ | ⟨-, -, rfl⟩ | ⟨-, i, _, v, -, -, hv, rfl⟩
  · simp [ha] at hacc
  · exact ⟨rfl, rfl⟩
  · have hframe := exec_keepsFrame i _ v hv
    exact ⟨congrArg SeqFrame.err hframe, congrArg SeqFrame.errcode hframe⟩

/-! ## A rejected CMD write -/

theorem wordIndex_toNat (off : BitVec 6) : (wordIndex off).toNat = off.toNat / 4 := by
  have := off.isLt
  simp only [wordIndex, BitVec.extractLsb'_toNat, Nat.shiftRight_eq_div_pow]
  omega

theorem wordIndex_eq_zero {off : BitVec 6} (h : off.toNat / 4 = 0) : wordIndex off = 0 :=
  BitVec.eq_of_toNat_eq ((wordIndex_toNat off).trans h)

/-- A CMD write that the validation turns away with code `k` is `reject k`, and no acceptance. -/
theorem hostAccess_rejected {s : State} {off : BitVec 6} {w : Word} {k : BitVec 4} (hoff : off.toNat / 4 = 0)
    (hk : s.requestCode w = some k) :
    s.hostAccess (some (.write off w)) = (State.reject k { s with rdata := none }, false) := by
  have hk' : State.requestCode { s with rdata := none } w = some k := hk
  simp only [State.hostAccess, State.hostWrite, wordIndex_eq_zero hoff, if_true, State.request, hk']

theorem Status.capture_of_err_false {st : Status} (k : BitVec 4) (h : st.err = false) :
    st.capture k = { st with err := true, errcode := k } := by
  simp [Status.capture, h]

theorem Status.capture_of_err_true {st : Status} (k : BitVec 4) (h : st.err = true) : st.capture k = st := by
  simp [Status.capture, h]

/-- Settles O17: ERR and ERRCODE after the cycle are those of the capture (R40), since the rejected access accepts no command
and SEQ writes neither. -/
theorem firstRejectionWins : Obligations.FirstRejectionWins := by
  unfold Obligations.FirstRejectionWins
  intro s t off w k ⟨hrst, hhost⟩ hoff hk hstep
  have hrej := hostAccess_rejected hoff hk
  rw [← hhost] at hrej
  obtain ⟨herr, hcode⟩ := step_err_of_not_accepted hrst (by rw [hrej]) hstep
  rw [hrej] at herr hcode
  simp only [State.reject_status] at herr hcode
  refine ⟨fun h => ?_, fun h => ?_⟩
  · rw [Status.capture_of_err_false k h] at herr hcode
    exact ⟨herr, hcode⟩
  · rw [Status.capture_of_err_true k h] at herr hcode
    exact ⟨herr.trans h, hcode⟩

end Sys2Proof.Machine
end

section
/-! PROOFS. The statements of spec/30_encoding.md: what the decoder answers on every OP and SEL, said once, and the round
trips and rejections that rest on it. -/

namespace Sys2Proof

/-! ## What the decoder answers -/

theorem decodePort_sel (p : MotorPort) : decodePort p.sel = .ok p := by
  cases p <;> rfl

theorem decodePreset_sel (p : Preset) : decodePreset p.sel = .ok p := by
  cases p <;> rfl

/-- OP and SEL of a well-formed command decode to it. -/
theorem decodeFields_opcode_selector {i : Instr} (h : i.WellFormed) : decodeFields i.opcode i.selector = .ok i := by
  cases i with
  | setChannel ch => exact congrArg (fun c => Except.ok (Instr.setChannel c)) (toInt_ofInt_channel h)
  | servo ch => exact congrArg (fun c => Except.ok (Instr.servo c)) (toInt_ofInt_channel h)
  | servoRange ch => exact congrArg (fun c => Except.ok (Instr.servoRange c)) (toInt_ofInt_channel h)
  | freqDetect ch => exact congrArg (fun c => Except.ok (Instr.freqDetect c)) (toInt_ofInt_channel h)
  | motor port => cases port <;> rfl
  | setFreqPreset preset => cases preset <;> rfl
  | _ => rfl

/-- The opcode map on every OP and SEL: an illegal opcode (R106), a bad selector (R102), or the well-formed command that
has this OP and this SEL. -/
theorem decodeFields_cases (op sel : Byte) :
    (14 ≤ op.toNat ∧ decodeFields op sel = .error .illegalOp) ∨
    (op.toNat < 14 ∧ decodeFields op sel = .error .badSelector) ∨
    (op.toNat < 14 ∧ ∃ i : Instr, decodeFields op sel = .ok i ∧ i.WellFormed ∧ i.opcode = op ∧ i.selector = sel) := by
  have hwf := channelEncodable_toInt sel
  have hsel : BitVec.ofInt 8 sel.toInt = sel := BitVec.ofInt_toInt
  rcases opcode_cases op with h | rfl | rfl | rfl | rfl | rfl | rfl | rfl | rfl | rfl | rfl | rfl | rfl | rfl | rfl
  · exact .inl ⟨h, decodeFields_illegal sel h⟩
  all_goals right
  · exact .inr ⟨by decide, .nop sel, rfl, rfl, rfl, rfl⟩
  · exact .inr ⟨by decide, .init sel, rfl, rfl, rfl, rfl⟩
  · exact .inr ⟨by decide, .calcPrescale sel, rfl, rfl, rfl, rfl⟩
  · exact .inr ⟨by decide, .setFreq sel, rfl, rfl, rfl, rfl⟩
  · exact .inr ⟨by decide, .setChannel sel.toInt, rfl, hwf, rfl, hsel⟩
  · exact .inr ⟨by decide, .clampTick sel, rfl, rfl, rfl, rfl⟩
  · exact .inr ⟨by decide, .mapLinear sel, rfl, rfl, rfl, rfl⟩
  · exact .inr ⟨by decide, .mapMotor sel, rfl, rfl, rfl, rfl⟩
  · exact .inr ⟨by decide, .servo sel.toInt, rfl, hwf, rfl, hsel⟩
  · exact .inr ⟨by decide, .servoRange sel.toInt, rfl, hwf, rfl, hsel⟩
  · rcases decodePort_cases sel with ⟨-, h⟩ | ⟨-, p, h, hp⟩
    · exact .inl ⟨by decide, by simp [decodeFields, h]⟩
    · exact .inr ⟨by decide, .motor p, by simp [decodeFields, h], rfl, rfl, hp⟩
  · rcases decodePreset_cases sel with ⟨-, h⟩ | ⟨-, p, h, hp⟩
    · exact .inl ⟨by decide, by simp [decodeFields, h]⟩
    · exact .inr ⟨by decide, .setFreqPreset p, by simp [decodeFields, h], rfl, rfl, hp⟩
  · exact .inr ⟨by decide, .ultrasonic sel, rfl, rfl, rfl, rfl⟩
  · exact .inr ⟨by decide, .freqDetect sel.toInt, rfl, hwf, rfl, hsel⟩

/-- The commands are the well-formed pairs of an OP and a SEL (R104): decoding the fields answers `i` exactly when they are
those of `i`. -/
theorem decodeFields_eq_ok_iff {op sel : Byte} {i : Instr} :
    decodeFields op sel = .ok i ↔ i.WellFormed ∧ i.opcode = op ∧ i.selector = sel := by
  constructor
  · intro h
    rcases decodeFields_cases op sel with ⟨-, h'⟩ | ⟨-, h'⟩ | ⟨-, j, h', hj⟩
    · cases h.symm.trans h'
    · cases h.symm.trans h'
    · cases h.symm.trans h'
      exact hj
  · rintro ⟨hwf, rfl, rfl⟩
    exact decodeFields_opcode_selector hwf

theorem decodeFields_eq_illegalOp_iff {op sel : Byte} :
    decodeFields op sel = .error .illegalOp ↔ 14 ≤ op.toNat := by
  rcases decodeFields_cases op sel with ⟨hop, h⟩ | ⟨hop, h⟩ | ⟨hop, i, h, -⟩ <;> simp [h, hop]

/-- RSV is not the decoder of OP and SEL's to judge. -/
theorem decodeFields_ne_reservedBits (op sel : Byte) : decodeFields op sel ≠ .error .reservedBits := by
  rcases decodeFields_cases op sel with ⟨-, h⟩ | ⟨-, h⟩ | ⟨-, i, h, -⟩ <;> simp [h]

theorem decodeWord_of_rsv_zero {w : Word} (h : rsvField w = 0) :
    decodeWord w = decodeFields (opField w) (selField w) := if_pos h

theorem decodeWord_of_rsv_ne_zero {w : Word} (h : rsvField w ≠ 0) : decodeWord w = .error .reservedBits := if_neg h

theorem decodeWord_eq_reservedBits_iff {w : Word} : decodeWord w = .error .reservedBits ↔ rsvField w ≠ 0 := by
  constructor
  · intro h hrsv
    rw [decodeWord_of_rsv_zero hrsv] at h
    exact decodeFields_ne_reservedBits _ _ h
  · exact decodeWord_of_rsv_ne_zero

theorem decodeWord_eq_illegalOp_iff {w : Word} :
    decodeWord w = .error .illegalOp ↔ rsvField w = 0 ∧ 14 ≤ (opField w).toNat := by
  by_cases hrsv : rsvField w = 0
  · simp [decodeWord_of_rsv_zero hrsv, hrsv, decodeFields_eq_illegalOp_iff]
  · exact iff_of_false (by simp [decodeWord_of_rsv_ne_zero hrsv]) fun h => hrsv h.1

/-! ## The round trips -/

theorem decodeWord_encode {i : Instr} (h : i.WellFormed) : decodeWord (encode i) = .ok i := by
  obtain ⟨hop, hsel, hrsv⟩ := Laws.EncodedFields.of_encode i
  rw [decodeWord_of_rsv_zero hrsv, hop, hsel]
  exact decodeFields_opcode_selector h

/-- The accepted words are the encodings of the well-formed commands: decoding answers `i` exactly on the word of `i`. -/
theorem decodeWord_eq_ok_iff {w : Word} {i : Instr} : decodeWord w = .ok i ↔ i.WellFormed ∧ encode i = w := by
  constructor
  · intro h
    by_cases hrsv : rsvField w = 0
    · rw [decodeWord_of_rsv_zero hrsv] at h
      obtain ⟨hwf, hop, hsel⟩ := decodeFields_eq_ok_iff.1 h
      refine ⟨hwf, ?_⟩
      rw [encode, hop, hsel]
      exact commandWord_fields hrsv
    · cases h.symm.trans (decodeWord_of_rsv_ne_zero hrsv)
  · rintro ⟨hwf, rfl⟩
    exact decodeWord_encode hwf

/-- Settles O1: a command's word carries its OP and SEL with RSV = 0, and these two fields decode to the command. -/
theorem decodeOfEncode : Obligations.DecodeOfEncode := by
  unfold Obligations.DecodeOfEncode
  exact fun _ hwf => decodeWord_encode hwf

/-- Settles O2: an accepted word has RSV = 0, so it is made of its OP and SEL, which are those of the command. -/
theorem encodeOfDecode : Obligations.EncodeOfDecode := by
  unfold Obligations.EncodeOfDecode
  exact fun _ _ h => decodeWord_eq_ok_iff.1 h

/-- Settles O4: the eight accepted words are the encodings of their commands; the four others are refused for SEL, OP or
RSV. -/
theorem sampleWordsDecode : Obligations.SampleWordsDecode := by
  unfold Obligations.SampleWordsDecode
  refine ⟨decodeWord_eq_ok_iff.2 ?_, decodeWord_eq_ok_iff.2 ?_, decodeWord_eq_ok_iff.2 ?_, decodeWord_eq_ok_iff.2 ?_,
    decodeWord_eq_ok_iff.2 ?_, decodeWord_eq_ok_iff.2 ?_, decodeWord_eq_ok_iff.2 ?_, decodeWord_eq_ok_iff.2 ?_, ?_, ?_,
    decodeWord_eq_illegalOp_iff.2 ?_, decodeWord_eq_reservedBits_iff.2 ?_⟩
  all_goals decide

end Sys2Proof

namespace Sys2Proof.Machine

/-! ## The rejection of a word that is no command -/

/-- While no command runs, a request whose word does not decode has that refusal's code (R273). -/
theorem State.requestCode_of_decode_error {s : State} {w : Word} {e : DecodeError} (hbusy : s.status.busy = false)
    (h : decodeWord w = .error e) : s.requestCode w = some (rejectionCode e) := by
  simp [State.requestCode, hbusy, h]

/-- Settles O3: RSV is judged before OP, OP before SEL (R273), and no other path answers these two refusals. -/
theorem reservedAndIllegalWordsRejected : Obligations.ReservedAndIllegalWordsRejected := by
  unfold Obligations.ReservedAndIllegalWordsRejected
  intro w
  refine ⟨decodeWord_eq_reservedBits_iff, decodeWord_eq_illegalOp_iff, rfl, rfl, fun s hbusy => ⟨fun hrsv => ?_, ?_⟩⟩
  · exact s.requestCode_of_decode_error hbusy (decodeWord_eq_reservedBits_iff.2 hrsv)
  · exact fun hrsv hop => s.requestCode_of_decode_error hbusy (decodeWord_eq_illegalOp_iff.2 ⟨hrsv, hop⟩)

end Sys2Proof.Machine
end

section

/-! PROOFS. The statements of spec/41_motion_mappers.md: mapLinear truncates the exact rational, mapMotorSpeed saturates. -/

namespace Sys2Proof.Machine

/-! ## Truncated division is the floor or the ceiling of the rational quotient -/

theorem floor_div_eq_tdiv_of_nonneg {n d : Int} (hn : 0 ≤ n) (hd : 0 ≤ d) : ⌊(n : ℚ) / d⌋ = n.tdiv d := by
  lift d to ℕ using hd
  rw [Int.tdiv_eq_ediv_of_nonneg hn]
  exact Rat.floor_intCast_div_natCast n d

theorem floor_div_eq_tdiv {n d : Int} (h : 0 ≤ (n : ℚ) / d) : ⌊(n : ℚ) / d⌋ = n.tdiv d := by
  rcases div_nonneg_iff.1 h with ⟨hn, hd⟩ | ⟨hn, hd⟩
  · exact floor_div_eq_tdiv_of_nonneg (mod_cast hn) (mod_cast hd)
  · have hn' : n ≤ 0 := mod_cast hn
    have hd' : d ≤ 0 := mod_cast hd
    simpa using floor_div_eq_tdiv_of_nonneg (Int.neg_nonneg.2 hn') (Int.neg_nonneg.2 hd')

/-- The ceiling of a quotient that is not positive is minus the floor of its negation. -/
theorem ceil_div_eq_tdiv {n d : Int} (h : (n : ℚ) / d ≤ 0) : ⌈(n : ℚ) / d⌉ = n.tdiv d := by
  have hneg : ((-n : Int) : ℚ) / d = -((n : ℚ) / d) := by rw [Int.cast_neg, neg_div]
  have hfloor := floor_div_eq_tdiv (hneg ▸ neg_nonneg.2 h)
  rw [hneg, Int.floor_neg, Int.neg_tdiv] at hfloor
  exact neg_injective hfloor

/-! ## mapLinear -/

/-- The common denominator that the model's mapLinear divides over (R181). -/
theorem interpolation_eq_div {x inMin inMax outMin outMax : Int} (h : inMin ≠ inMax) :
    ((x : ℚ) - inMin) * ((outMax : ℚ) - outMin) / ((inMax : ℚ) - inMin) + outMin =
      (((x - inMin) * (outMax - outMin) + outMin * (inMax - inMin) : Int) : ℚ) / ((inMax - inMin : Int) : ℚ) := by
  have hden : (inMax : ℚ) - inMin ≠ 0 := sub_ne_zero.2 (mod_cast h.symm)
  push_cast
  rw [add_div, mul_div_cancel_right₀ _ hden]

/-- Settles O26: over the common denominator the interpolation is one quotient, which truncated division rounds down
where it is not negative and up where it is not positive. -/
theorem mapLinearTruncates : Obligations.MapLinearTruncates := by
  unfold Obligations.MapLinearTruncates
  intro x inMin inMax outMin outMax hne
  dsimp only
  rw [interpolation_eq_div hne]
  exact ⟨fun hq => (floor_div_eq_tdiv hq).symm, fun hq => (ceil_div_eq_tdiv hq).symm⟩

/-! ## Saturation, and mapMotorSpeed -/

theorem clamp_of_mem {v lo hi : Int} (hlo : lo ≤ v) (hhi : v ≤ hi) : clamp v lo hi = v := by
  rw [clamp, max_eq_left hlo, min_eq_left hhi]

theorem clamp_of_ge {v lo hi : Int} (hlo : lo ≤ hi) (hhi : hi ≤ v) : clamp v lo hi = hi := by
  rw [clamp, max_eq_left (hlo.trans hhi), min_eq_right hhi]

theorem clamp_of_le {v lo hi : Int} (hlo : v ≤ lo) (hhi : lo ≤ hi) : clamp v lo hi = lo := by
  rw [clamp, max_eq_right hlo, min_eq_left hhi]

/-- The product, its saturation and the flag in numerals (R183). -/
theorem mapMotorSpeed_eq_of_clamp {v m : Int} (h : clamp (16 * v) (-4095) 4095 = m) :
    mapMotorSpeed v = (m, m != 16 * v) := by
  subst h
  rfl

/-- Settles O28: the product 16 * v lies in the saturation's range for -255..255 and strictly outside it from 256 in
magnitude on, so the flag says exactly which. -/
theorem motorSpeedSaturates : Obligations.MotorSpeedSaturates := by
  unfold Obligations.MotorSpeedSaturates
  refine fun v => ⟨fun hlo hhi => ?_, fun hhi => ?_, fun hlo => ?_⟩
  · rw [mapMotorSpeed_eq_of_clamp (clamp_of_mem (by omega) (by omega)), bne_self_eq_false]
  · have hne : (4095 : Int) ≠ 16 * v := by omega
    rw [mapMotorSpeed_eq_of_clamp (clamp_of_ge (by omega) (by omega)), bne_iff_ne.2 hne]
  · have hne : (-4095 : Int) ≠ 16 * v := by omega
    rw [mapMotorSpeed_eq_of_clamp (clamp_of_le (by omega) (by omega)), bne_iff_ne.2 hne]

end Sys2Proof.Machine
end

section
/-! PROOFS. The frequency classifier: the label of each corrected count and of each raw edge count (spec/43_sensors.md
R243). -/

namespace Sys2Proof.Machine

/-- The cascade's first arm answers (R243). -/
theorem classify_of_ge {c : Int} (h : 54 ≤ c) : classify c = 65 :=
  if_pos h

/-- Every comparison of the cascade fails (R243). -/
theorem classify_of_le {c : Int} (h : c ≤ 48) : classify c = 88 := by
  simp (disch := omega) only [classify, if_neg]

/-- Settles O29: the two ends of each table are the cascade's first and last arm, with the correction of 2 taken off a raw
count; the five labels between them each belong to one count, where the cascade evaluates. -/
theorem classifyTable : Obligations.ClassifyTable := by
  unfold Obligations.ClassifyTable
  refine ⟨fun c => ⟨classify_of_ge, ?_, ?_, ?_, ?_, ?_, classify_of_le⟩, fun ec =>
    ⟨fun h => classify_of_ge ?raw_ge, ?_, ?_, ?_, ?_, ?_, fun h => classify_of_le ?raw_le⟩⟩
  case raw_ge | raw_le =>
    rw [freqCorr]
    omega
  all_goals
    rintro rfl
    rfl

end Sys2Proof.Machine
end

section
/-! PROOFS. The cycle with RST = 1 (spec/70_reset_and_hazards.md R300). -/

namespace Sys2Proof.Machine

/-- RST is judged first: neither the HOST access nor SEQ's step is evaluated. -/
theorem step_of_rst {s : State} (h : s.input.rst = true) : step s = .next s.onReset.tick :=
  if_pos h

/-- The masks, the coming inputs and the number of the cycle, which RST keeps, are not the block's state. -/
theorem atReset_with_environment {s : State} {m : Masks} {e : List CycleInput} {n : Nat} :
    AtReset { s with masks := m, env := e, cycle := n } ↔ AtReset s :=
  Iff.rfl

theorem atReset_reset : AtReset State.reset := by
  unfold AtReset
  decide

theorem atReset_onReset_tick (s : State) : AtReset s.onReset.tick :=
  (atReset_with_environment (s := State.reset)).2 atReset_reset

/-- Settles O6: the next state is `onReset`'s, which differs from State.reset only in what is not the block's state. -/
theorem rstOverridesEverything : Obligations.RstOverridesEverything := by
  unfold Obligations.RstOverridesEverything
  exact fun s hrst => ⟨s.onReset.tick, step_of_rst hrst, atReset_onReset_tick s⟩

end Sys2Proof.Machine
end

section
/-! PROOFS. One cycle (spec/00_scope.md R9) and the host window: what a step is from an idle and from a running block, what each
HOST access does, and the statements of spec/10_state.md section 4 that rest on them. -/

namespace Sys2Proof.Machine

/-! ## What a cycle is -/

section Cycle

variable {s t u : State} {i : Instr} {p : SeqPos}

theorem step_accepted (hr : s.input.rst = false) (ha : (s.hostAccess s.input.host).2 = true) :
    step s = .next (s.hostAccess s.input.host).1.tick := by
  rcases hx : s.hostAccess s.input.host with ⟨v, b⟩
  rw [hx] at ha
  cases ha
  simp [step, hr, hx]

theorem step_not_accepted (hr : s.input.rst = false) (ha : (s.hostAccess s.input.host).2 = false) :
    step s = endCycle (seqStep (s.hostAccess s.input.host).1) := by
  rcases hx : s.hostAccess s.input.host with ⟨v, b⟩
  rw [hx] at ha
  cases ha
  simp [step, hr, hx]

theorem seqStep_idle (h : s.seq = .idle) : seqStep s = .next s := by
  simp only [seqStep, h]

theorem seqStep_run (h : s.seq = .run p) (hl : s.latched = .ok i) : seqStep s = exec i s := by
  simp only [seqStep, h, hl]

theorem seqStep_badLatch {e : DecodeError} (h : s.seq = .run p) (hl : s.latched = .error e) :
    seqStep s = .fault .badLatch := by
  simp only [seqStep, h, hl]

/-- A HOST access that is no accepted command moves neither SEQ nor the latch. -/
theorem hostAccess_seq {h : Option HostAccess} (ha : (s.hostAccess h).2 = false) :
    (s.hostAccess h).1.seq = s.seq ∧ (s.hostAccess h).1.latched = s.latched := by
  rw [hostAccess_frame ha]
  exact ⟨rfl, rfl⟩

/-- A running command's cycle: SEQ's cycle of it on what the HOST access left. -/
theorem step_running (hr : s.input.rst = false) (ha : (s.hostAccess s.input.host).2 = false) (h : s.seq = .run p)
    (hl : s.latched = .ok i) : step s = endCycle (exec i (s.hostAccess s.input.host).1) := by
  obtain ⟨hseq, hlat⟩ := hostAccess_seq ha
  rw [step_not_accepted hr ha, seqStep_run (hseq.trans h) (hlat.trans hl)]

theorem step_idle (hr : s.input.rst = false) (h : s.seq = .idle) : step s = .next (s.hostAccess s.input.host).1.tick := by
  cases ha : (s.hostAccess s.input.host).2 with
  | true => exact step_accepted hr ha
  | false => rw [step_not_accepted hr ha, seqStep_idle ((hostAccess_seq ha).1.trans h)]; rfl

end Cycle

/-- Settles O9: with SEQ idle both outcomes of the HOST access end the cycle as it left the block. -/
theorem idleCycleOnlyServesHost : Obligations.IdleCycleOnlyServesHost := by
  unfold Obligations.IdleCycleOnlyServesHost
  exact fun s hr h => step_idle hr h

/-- Settles O7: while BUSY = 1 no HOST access is an acceptance, and it touches neither SEQ_STATE nor the latch. -/
theorem stepRunsLatchedCommand : Obligations.StepRunsLatchedCommand := by
  unfold Obligations.StepRunsLatchedCommand
  exact fun s i p hr hbusy h hl => ⟨step_running hr (hostAccess_busy hbusy _) h hl, rfl, fun _ => rfl⟩

/-! ## Reset -/

theorem hostRead_reset (off : BitVec 6) : State.reset.hostRead off = 0 := by
  simp only [State.hostRead]
  (repeat' split) <;> rfl

/-- Settles O5: every register reads 0 at State.reset, and a cycle with RST = 1 is `onReset` and the next input. -/
theorem resetValues : Obligations.ResetValues := by
  unfold Obligations.ResetValues
  exact ⟨atReset_reset, hostRead_reset, rfl, rfl, rfl, rfl, rfl, fun s h => step_of_rst h⟩

/-! ## The window's words -/

theorem wordIndex_eq {off : BitVec 6} {k : Nat} (h : off.toNat / 4 = k) : wordIndex off = BitVec.ofNat 4 k := by
  rw [← h, ← wordIndex_toNat, BitVec.ofNat_toNat, BitVec.setWidth_eq]

/-- The bits of STATUS as HOST reads it (spec/10_state.md R37). -/
theorem Status.word_bits (st : Status) :
    st.word.getLsbD 0 = st.busy ∧ st.word.getLsbD 1 = st.ready ∧ st.word.getLsbD 2 = st.done ∧
    st.word.getLsbD 3 = st.err ∧ st.word.extractLsb' 4 4 = st.errcode ∧ st.word.getLsbD 8 = st.pscOor ∧
    st.word.getLsbD 9 = st.chIgn ∧ st.word.getLsbD 10 = st.noEcho ∧ st.word.getLsbD 11 = st.clamped ∧
    st.word.getLsbD 12 = st.ovf ∧ st.word.extractLsb' 13 19 = 0 := by
  refine ⟨?_, ?_, ?_, ?_, ?errcode, ?_, ?_, ?_, ?_, ?_, ?reserved⟩
  case errcode | reserved =>
    apply BitVec.eq_of_getLsbD_eq
    intro j hj
    simp only [Status.word, BitVec.getLsbD_extractLsb', BitVec.getLsbD_append]
    interval_cases j <;> simp
  all_goals
    simp only [Status.word, BitVec.getLsbD_append]
    simp

/-- The fields of LAST_PSC as HOST reads it (R41). -/
theorem LastPsc.word_fields (l : LastPsc) :
    l.word.extractLsb' 0 8 = l.psc ∧ l.word.getLsbD 8 = l.valid ∧ l.word.extractLsb' 9 23 = 0 := by
  refine ⟨BitVec.eq_of_getLsbD_eq fun j hj => ?_, ?_, BitVec.eq_of_getLsbD_eq fun j hj => ?_⟩
  all_goals simp only [LastPsc.word, BitVec.getLsbD_extractLsb', BitVec.getLsbD_append]
  · simp [hj]
  · simp
  · have h8 : ¬9 + j < 8 := by omega
    have h0 : 9 + j - 8 ≠ 0 := by omega
    simp [h8, h0]

/-- From word 10 on the window is reserved (R42). -/
theorem State.hostRead_reserved (s : State) {off : BitVec 6} (h : 10 ≤ off.toNat / 4) : s.hostRead off = 0 := by
  have ne (k : BitVec 4) (hk : k.toNat < 10) : wordIndex off ≠ k := by
    rintro rfl
    rw [wordIndex_toNat] at hk
    omega
  simp only [State.hostRead]
  rw [if_neg (ne _ (by decide)), if_neg (ne _ (by decide)), if_neg (ne _ (by decide)), if_neg (ne _ (by decide)),
    if_neg (ne _ (by decide)), if_neg (ne _ (by decide)), if_neg (ne _ (by decide)), if_neg (ne _ (by decide)),
    if_neg (ne _ (by decide)), if_neg (ne _ (by decide))]

/-- SEQ's cycle leaves the read data of the HOST access (log entry 5). -/
theorem step_rdata {s t : State} (hr : s.input.rst = false) (ha : (s.hostAccess s.input.host).2 = false)
    (h : step s = .next t) : t.rdata = (s.hostAccess s.input.host).1.rdata := by
  rcases step_next hr h with ⟨_, hacc, -⟩ | ⟨-, -, rfl⟩ | ⟨-, i, _, v, -, -, hv, rfl⟩
  · simp [ha] at hacc
  · rfl
  · exact congrArg SeqFrame.rdata (exec_keepsFrame i _ v hv)

/-- Settles O10: a read is no acceptance and returns the field values of the word's register at the beginning of the cycle. -/
theorem hostReadMap : Obligations.HostReadMap := by
  unfold Obligations.HostReadMap
  rintro s t off ⟨hr, hhost⟩ hstep
  have hread := step_rdata hr (by rw [hhost]; rfl) hstep
  rw [hhost] at hread
  have at_word {k : Nat} (h : off.toNat / 4 = k) : wordIndex off = BitVec.ofNat 4 k := wordIndex_eq h
  refine ⟨s.hostRead off, hread, fun h => ?_, fun h => ?_, fun h => ?_, fun h => ?_, fun h => ?_, fun h => ?_, fun h => ?_,
    fun h => ?_, fun h => ?_, fun h => ?_, s.hostRead_reserved⟩
  case refine_2 =>
    have hword : s.hostRead off = s.status.word := by simp [State.hostRead, at_word h]
    rw [hword]
    exact s.status.word_bits
  case refine_10 =>
    have hword : s.hostRead off = s.lastPsc.word := by simp [State.hostRead, at_word h]
    rw [hword]
    exact s.lastPsc.word_fields
  all_goals simp [State.hostRead, at_word h]

/-! ## HOST writes -/

/-- The operand registers after a write of `v` to word `k` of the window (R31, R32, R41, R42). -/
def Operands.written (a : Operands) (k : Nat) (v : Word) : Operands where
  a0 := if k = 2 then v else a.a0
  a1 := if k = 3 then v else a.a1
  a2 := if k = 4 then v else a.a2
  a3 := if k = 5 then v else a.a3
  a4 := if k = 6 then v else a.a4

/-- A write from word 2 on changes the operand register there, or nothing. -/
theorem State.hostWrite_arg (s : State) {off : BitVec 6} (v : Word) (h : 2 ≤ off.toNat / 4) :
    s.hostWrite off v = ({ s with arg := s.arg.written (off.toNat / 4) v }, false) := by
  have hlt : off.toNat / 4 < 16 := by have := off.isLt; omega
  have hword := wordIndex_eq (off := off) rfl
  generalize off.toNat / 4 = k at *
  simp only [State.hostWrite, hword]
  interval_cases k <;> rfl

theorem hostAccess_writeArg (s : State) {off : BitVec 6} (v : Word) (h : 2 ≤ off.toNat / 4) :
    s.hostAccess (some (.write off v)) = ({ s with arg := s.arg.written (off.toNat / 4) v, rdata := none }, false) :=
  State.hostWrite_arg _ v h

theorem hostAccess_writeStatus (s : State) {off : BitVec 6} (v : Word) (h : off.toNat / 4 = 1) :
    s.hostAccess (some (.write off v)) = ({ s with status := s.status.w1c v, rdata := none }, false) := by
  simp [State.hostAccess, State.hostWrite, wordIndex_eq h]

/-- SEQ's cycle never writes the operand registers. -/
theorem step_arg {s t : State} (hr : s.input.rst = false) (ha : (s.hostAccess s.input.host).2 = false)
    (h : step s = .next t) : t.arg = (s.hostAccess s.input.host).1.arg := by
  rcases step_next hr h with ⟨_, hacc, -⟩ | ⟨-, -, rfl⟩ | ⟨-, i, _, v, -, -, hv, rfl⟩
  · simp [ha] at hacc
  · rfl
  · exact congrArg SeqFrame.arg (exec_keepsFrame i _ v hv)

/-- Settles O11: such a write is no acceptance, so an idle block has just its effect and a running one takes its cycle on it,
and SEQ never writes ARG. -/
theorem hostWriteMap : Obligations.HostWriteMap := by
  unfold Obligations.HostWriteMap
  rintro s off v ⟨hr, hhost⟩ h2
  have hacc := hostAccess_writeArg s v h2
  rw [← hhost] at hacc
  have ha : (s.hostAccess s.input.host).2 = false := by rw [hacc]
  refine ⟨fun hidle => ?_, fun i p hp hl => ?_, fun t ht => ?_⟩
  · rw [step_idle hr hidle, hacc]
    rfl
  · rw [step_running hr ha hp hl, hacc]
    rfl
  · rw [step_arg hr ha ht, hacc]
    rfl

theorem and_not_eq_if (a b : Bool) : (a && !b) = if b then false else a := by
  cases b <;> simp

/-- Settles O12: the step of an idle block is the write-1-to-clear of STATUS. -/
theorem statusWriteClears : Obligations.StatusWriteClears := by
  unfold Obligations.StatusWriteClears
  rintro s off v ⟨hr, hhost⟩ ⟨hidle, -⟩ hoff
  rw [step_idle hr hidle, hhost, hostAccess_writeStatus s v hoff]
  simp only [Status.w1c, and_not_eq_if]
  rfl

/-! ## Command requests -/

theorem State.reject_eq (k : BitVec 4) (s : State) :
    s.reject k = { s with status.err := true, status.errcode := if s.status.err then s.status.errcode else k } := by
  cases h : s.status.err with
  | true =>
    rw [State.reject, Status.capture_of_err_true k h, if_pos rfl, ← h]
  | false => simp [State.reject, Status.capture, h]

/-- A CMD write without a code is an acceptance (spec/60_exceptions.md R273, spec/10_state.md R34). -/
theorem hostAccess_accept {s : State} {off : BitVec 6} {w : Word} (hoff : off.toNat / 4 = 0)
    (hk : s.requestCode w = none) :
    s.hostAccess (some (.write off w)) = (State.accept w { s with rdata := none }, true) := by
  have hk' : State.requestCode { s with rdata := none } w = none := hk
  simp only [State.hostAccess, State.hostWrite, wordIndex_eq_zero hoff, if_true, State.request, hk']

/-- Settles O15: the cycle of an acceptance is the acceptance and the next input. -/
theorem acceptedCommandIsLatched : Obligations.AcceptedCommandIsLatched := by
  unfold Obligations.AcceptedCommandIsLatched
  rintro s off w ⟨hr, hhost⟩ hoff hk
  have hacc := hostAccess_accept hoff hk
  rw [← hhost] at hacc
  rw [step_accepted hr (by rw [hacc]), hacc]
  rfl

/-- Settles O16: with SEQ idle the cycle of a rejection is the capture and the next input. -/
theorem rejectionIsPrecise : Obligations.RejectionIsPrecise := by
  unfold Obligations.RejectionIsPrecise
  rintro s off w k ⟨hr, hhost⟩ hoff hidle hk
  rw [step_idle hr hidle, hhost, hostAccess_rejected hoff hk, State.reject_eq]
  rfl

/-- The commands whose selector is checked: a motor port from 4 on and a preset from 6 on are bad (spec/30_encoding.md R102). -/
theorem decodeFields_eq_badSelector_iff {op sel : Byte} :
    decodeFields op sel = .error .badSelector ↔ op = 0x0A ∧ 3 < sel.toNat ∨ op = 0x0B ∧ 5 < sel.toNat := by
  by_cases hmotor : op = 0x0A
  · subst hmotor
    rcases decodePort_cases sel with ⟨hsel, h⟩ | ⟨hsel, port, h, -⟩ <;> simp [decodeFields, h, hsel]
  · by_cases hpreset : op = 0x0B
    · subst hpreset
      rcases decodePreset_cases sel with ⟨hsel, h⟩ | ⟨hsel, preset, h, -⟩ <;> simp [decodeFields, h, hsel]
    · refine iff_of_false (fun h => ?_) (by rintro (⟨h, -⟩ | ⟨h, -⟩); exacts [hmotor h, hpreset h])
      rcases opcode_cases op with hop | rfl | rfl | rfl | rfl | rfl | rfl | rfl | rfl | rfl | rfl | rfl | rfl | rfl | rfl
      · cases h.symm.trans (decodeFields_illegal sel hop)
      any_goals cases h
      exacts [hmotor rfl, hpreset rfl]

/-- The operand condition of code 5 by opcode (spec/60_exceptions.md R272). -/
theorem divZeroOperands_iff {i : Instr} {a : Operands} :
    divZeroOperands i a = true ↔
      (i.opcode = 0x02 ∨ i.opcode = 0x03) ∧ a.a0 = 0 ∨ i.opcode = 0x06 ∧ a.a1 = a.a2 := by
  cases i <;> simp [divZeroOperands, Instr.opcode]

/-- The validation in the order of the codes, on the word's fields (R273, R272). -/
theorem State.requestCode_eq (s : State) (w : Word) :
    s.requestCode w =
      if s.status.busy then some 1
      else if rsvField w ≠ 0 then some 2
      else if 14 ≤ (opField w).toNat then some 3
      else if opField w = 0x0A ∧ 3 < (selField w).toNat ∨ opField w = 0x0B ∧ 5 < (selField w).toNat then some 4
      else if (opField w = 0x02 ∨ opField w = 0x03) ∧ s.arg.a0 = 0 ∨ opField w = 0x06 ∧ s.arg.a1 = s.arg.a2 then some 5
      else none := by
  unfold State.requestCode
  split
  · rfl
  by_cases hrsv : rsvField w = 0
  · rw [if_neg (not_not_intro hrsv), decodeWord_of_rsv_zero hrsv]
    rcases decodeFields_cases (opField w) (selField w) with ⟨hop, h⟩ | ⟨hop, h⟩ | ⟨hop, i, h, -, hi, -⟩
    · rw [h, if_pos hop]
      rfl
    · rw [h, if_neg (by omega), if_pos (decodeFields_eq_badSelector_iff.1 h)]
      rfl
    · have hsel := mt decodeFields_eq_badSelector_iff.2 (by rw [h]; simp)
      have hdiv := @divZeroOperands_iff i s.arg
      rw [hi] at hdiv
      rw [h, if_neg (by omega), if_neg hsel]
      exact if_congr hdiv rfl rfl
  · rw [if_pos hrsv, decodeWord_of_rsv_ne_zero hrsv]
    rfl

/-- Settles O14: the code is the first whose condition holds, and the access is the rejection with that code or, without one,
the acceptance. -/
theorem requestValidationOrder : Obligations.RequestValidationOrder := by
  unfold Obligations.RequestValidationOrder
  intro s off w hoff op sel code
  have hop (k : Byte) : opField w = k ↔ op = k.toNat := BitVec.toNat_inj.symm
  have hcode : s.requestCode w = code := by
    rw [s.requestCode_eq w]
    simp only [hop]
    rfl
  refine ⟨hcode, ?_⟩
  rw [← hcode]
  cases hk : s.requestCode w with
  | some k => rw [hostAccess_rejected hoff hk, State.reject_eq]
  | none => exact hostAccess_accept hoff hk

/-! ## A word placed for the next step -/

theorem wordBytes_append (w : Word) :
    ((w.extractLsb' 24 8 ++ w.extractLsb' 16 8) ++ w.extractLsb' 8 8) ++ w.extractLsb' 0 8 = w := by
  apply BitVec.eq_of_getLsbD_eq
  intro j hj
  simp only [BitVec.getLsbD_append, BitVec.getLsbD_extractLsb']
  interval_cases j <;> simp

theorem decodeTableWord_eq_some {w : Nat} {i : Instr} (h : decodeTableWord 32 w = some i) :
    decodeWord (BitVec.ofNat 32 (w % 2 ^ 32)) = .ok i := by
  simp only [decodeTableWord, wordBytes, decodeBytes, wordBytes_append] at h
  split at h
  · cases hd : decodeWord (BitVec.ofNat 32 (w % 2 ^ 32)) with
    | ok j =>
      rw [hd] at h
      cases h
      rfl
    | error e =>
      rw [hd] at h
      cases h
  · cases h

/-- The latch of a word that decodes holds its command. -/
theorem decodeFields_of_decodeWord {w : Word} {i : Instr} (h : decodeWord w = .ok i) :
    decodeFields (opField w) (selField w) = .ok i := by
  by_cases hrsv : rsvField w = 0
  · rwa [decodeWord_of_rsv_zero hrsv] at h
  · cases h.symm.trans (decodeWord_of_rsv_ne_zero hrsv)

/-- The harness moves the operands off those of code 5 (log entry 6). -/
theorem divZeroOperands_runnable (i : Instr) (a : Operands) : divZeroOperands i (runnableOperands i a) = false := by
  unfold runnableOperands
  split
  · next hd =>
    cases i with
    | mapLinear _ | calcPrescale _ | setFreq _ => simp [divZeroOperands]
    | _ => cases hd
  · next hd => simpa using hd

/-- Settles O8: the placed state runs the word's command at its start in a quiet cycle. -/
theorem placedCommandRunsNext : Obligations.PlacedCommandRunsNext := by
  unfold Obligations.PlacedCommandRunsNext
  intro s w i h
  have hd := decodeTableWord_eq_some h
  have hplace : s.withFetchWord 32 w =
      { s with
        status := { s.status with busy := true }
        opL := opField (BitVec.ofNat 32 (w % 2 ^ 32))
        selL := selField (BitVec.ofNat 32 (w % 2 ^ 32))
        snap := runnableOperands i s.arg
        seq := .run .start
        bus := { s.bus with breq := false }
        unitP := { s.unitP with initpend := false }
        env := quietInput :: s.env } := by
    simp only [State.withFetchWord, State.placeCommand, hd]
  rw [hplace]
  exact ⟨step_running rfl rfl rfl (decodeFields_of_decodeWord hd), ⟨rfl, rfl⟩, divZeroOperands_runnable i s.arg⟩

end Sys2Proof.Machine
end

section
/-! PROOFS. What SEQ's cycle of a command can do with no request outstanding (`Move`), and where it stops: the statement of
log entry 7's faults, and the inversion of `exec` on which the invariants rest. -/

namespace Sys2Proof.Machine

/-! ## The moves of the pseudocode -/

/-- SEQ goes on outside ensureReady in this cycle, with `u`: at the start of a command that does not call ensureReady, when
ensureReady returns, or at a later position of the command's own (spec/40_pwm_controller.md R131). -/
inductive GoesOn (i : Instr) (s : State) : State → Prop where
  | start (hi : usesInit i = false) (hp : s.resumesAt .start) : GoesOn i s s
  | returns {u : State} (hi : usesInit i = true) (hu : ReturnsFromEnsureReady s u) : GoesOn i s u
  | own {p : SeqPos} (hi : usesInit i = true) (hp : s.resumesAt p)
      (hown : p = .presetMode1 ∨ p = .chanFirst ∨ p = .chanSecond ∨ p = .freq .restart ∧ s.unitP.initpend = false) :
      GoesOn i s s

/-- The pure lines before `complete`: from `u` to `v` only the results and PSC_OOR, CH_IGN, CLAMPED and OVF can change, and
of those only what command `i` names (spec/00_scope.md R7). -/
structure PureLines (i : Instr) (u v : State) : Prop where
  frame : v =
    { u with
      result0 := v.result0
      result1 := v.result1
      status :=
        { u.status with
          pscOor := v.status.pscOor, chIgn := v.status.chIgn, clamped := v.status.clamped, ovf := v.status.ovf } }
  result0 : (∃ sel, i = .init sel) → v.result0 = u.result0
  result1 : isPure i = false → setsFreq i = false → (∀ ch, i ≠ .setChannel ch) → v.result1 = u.result1
  flags : isPure i = false → v.status.pscOor = u.status.pscOor ∧ v.status.ovf = u.status.ovf

/-- The next states of SEQ's cycle of command `i` with no request outstanding (R130). -/
inductive Move (i : Instr) (s : State) : State → Prop where
  | initIssue (hi : usesInit i = true) (hp : s.resumesAt .start) (hready : s.status.ready = false) : Move i s s.initIssue
  | initCall (hi : usesInit i = true) (hp : s.resumesAt .initWake) : Move i s (s.freqStart initHz)
  | freqMove {f : FreqPos} (hi : hasPosition i s.unitP.initpend (.freq f) = true) (hp : s.resumesAt (.freq f))
      (hf : f ≠ .restart) : Move i s (s.freqMove f)
  | presetWrite {u : State} (hi : isPreset i = true) (hu : GoesOn i s u) :
      Move i s (u.busWrite1 regMode1 0x00 .presetMode1)
  | freqCall {u : State} (A : Nat) (hi : setsFreq i = true) (hu : GoesOn i s u) : Move i s (u.freqStart A)
  | channelWrite {u : State} {p : SeqPos} {ch : Int} (on off : Int) (c : Bool)
      (hi : p = .chanFirst ∧ writesChannel i = true ∨ p = .chanSecond ∧ isMotor i = true) (hch : channelValid ch = true)
      (hc : isFreqDetect i = true → c = false) (hu : GoesOn i s u) :
      Move i s ((u.raiseClamped c).busWrite4 (channelReg ch) (frame (clampTick on).1 (clampTick off).1) p)
  | complete {u v : State} (hi : isUltrasonic i = false) (hf : isFreqDetect i = false) (hu : GoesOn i s u)
      (hv : PureLines i u v) : Move i s v.complete
  | loopStart (c : Bool) (hi : isFreqDetect i = true) (hu : GoesOn i s s) : Move i s (s.raiseChIgn c).freqLoopStart
  | trigStart (hi : isUltrasonic i = true) (hp : s.resumesAt .start) :
      Move i s (((s.driveTrig false).setUph .trigLo).goTo (.trigLow (trigLowUs - 1)))
  | trigLowWait (k : Nat) (hi : isUltrasonic i = true) (hp : s.resumesAt (.trigLow (k + 1))) :
      Move i s (s.goTo (.trigLow k))
  | trigRise (hi : isUltrasonic i = true) (hp : s.resumesAt (.trigLow 0)) :
      Move i s (((s.driveTrig true).setUph .trigHi).goTo (.trigHigh (trigHighUs - 1)))
  | trigHighWait (k : Nat) (hi : isUltrasonic i = true) (hp : s.resumesAt (.trigHigh (k + 1))) :
      Move i s (s.goTo (.trigHigh k))
  | trigFall (hi : isUltrasonic i = true) (hp : s.resumesAt (.trigHigh 0)) : Move i s ((s.driveTrig false).goTo .trigFall)
  | echoStart (hi : isUltrasonic i = true) (hp : s.resumesAt .trigFall) : Move i s s.echoStart
  | echoCycle (hi : isUltrasonic i = true) (hp : s.resumesAt .echo) : Move i s s.echoCycle
  | sampleCycle (hi : isFreqDetect i = true) (hp : s.resumesAt .sample) : Move i s s.sampleCycle

/-! ## Channels -/

theorem channelValid_iff {ch : Int} : channelValid ch = true ↔ 0 ≤ ch ∧ ch ≤ 15 := by
  simp [channelValid]

theorem channelValid_eq_false_iff {ch : Int} : channelValid ch = false ↔ ch < 0 ∨ 15 < ch := by
  simp [channelValid, Decidable.imp_iff_not_or]

/-- Both channels of MOTOR are channels of the wiring table (spec/42_device_facade.md R203, R204). -/
theorem channelValid_motorWrites (port : MotorPort) (m : Int) :
    channelValid (motorWrites port m).1.1 = true ∧ channelValid (motorWrites port m).2.1 = true := by
  unfold motorWrites
  split <;> cases port <;> exact ⟨rfl, rfl⟩

/-! ## What a cycle answers -/

/-- At a position of the command (`true`) the cycle is a move; at any other it stops. -/
def Answers (i : Instr) (s : State) : Bool → Result → Prop
  | true, r => ∃ t, r = .next t ∧ Move i s t
  | false, r => r = .fault .offPseudocode

variable {i : Instr} {s : State} {p : SeqPos}

theorem Answers.next {t : State} {b : Bool} (hb : b = true) (h : Move i s t) : Answers i s b (.next t) := by
  subst hb
  exact ⟨t, rfl, h⟩

theorem Answers.off {b : Bool} (hb : b = false) : Answers i s b (.fault .offPseudocode) := by
  subst hb
  rfl

theorem notInit_of_isPure (hi : isPure i = true) :
    usesInit i = false ∧ setsFreq i = false ∧ isUltrasonic i = false ∧ isFreqDetect i = false := by
  cases i <;> simp_all [isPure, usesInit, setsFreq, isUltrasonic, isFreqDetect]

theorem usesInit_of_setsFreq (hi : setsFreq i = true) :
    usesInit i = true ∧ isUltrasonic i = false ∧ isFreqDetect i = false := by
  cases i <;> simp_all [setsFreq, usesInit, isUltrasonic, isFreqDetect]

/-- A pure command has no position but its start. -/
theorem hasPosition_of_isPure (hi : isPure i = true) (b : Bool) (hp : p ≠ .start) : hasPosition i b p = false := by
  cases i <;> cases hi <;> cases p <;>
    simp_all [hasPosition, usesInit, setsFreq, writesChannel, isPreset, isMotor, isUltrasonic, isFreqDetect]

theorem emitChannel_valid {ch on off : Int} {after : State → Result} (h : channelValid ch = true) :
    emitChannel ch on off p s after =
      .next ((s.raiseClamped ((clampTick on).2 || (clampTick off).2)).busWrite4 (channelReg ch)
        (frame (clampTick on).1 (clampTick off).1) p) := by
  simp only [emitChannel, h, if_true]

theorem emitChannel_invalid {ch on off : Int} {after : State → Result} (h : channelValid ch = false) :
    emitChannel ch on off p s after =
      after ((s.raiseClamped ((clampTick on).2 || (clampTick off).2)).raiseChIgn true) := by
  simp only [emitChannel, h, Bool.false_eq_true, if_false]

/-- setFreqSeq resumed inside a command: its next move, or the end of the command after the restart write. -/
theorem freqResume_answers {f : FreqPos} {after : State → Result} {b : Bool}
    (hi : hasPosition i s.unitP.initpend (.freq f) = true) (hp : s.resumesAt (.freq f)) (hb : b = true)
    (hafter : f = .restart → ∃ t, after s = .next t ∧ Move i s t) : Answers i s b (freqResume f s after) := by
  subst hb
  unfold freqResume
  split
  · exact hafter ‹_›
  · exact .next rfl (.freqMove hi hp ‹_›)

/-- The moves of a command that calls ensureReady: ensureReady's own, the body's when it returns, and the command's own. -/
theorem chipCommand_answers {body : State → Result} {own : SeqPos → Result} (hi : usesInit i = true)
    (hp : s.resumesAt p) (hbody : ∀ u, GoesOn i s u → ∃ t, body u = .next t ∧ Move i s t)
    (hown : p ≠ .start → p ≠ .initWake → (∀ f, p = .freq f → s.unitP.initpend = false) →
      Answers i s (hasPosition i false p) (own p)) :
    Answers i s (hasPosition i s.unitP.initpend p) (chipCommand p s body own) := by
  cases p with
  | start =>
    cases hr : s.status.ready with
    | true =>
      simp only [chipCommand, ensureReady, hr, if_true]
      exact hbody s (.returns hi (.inl ⟨hp, hr, rfl⟩))
    | false =>
      simp only [chipCommand, ensureReady, hr, Bool.false_eq_true, if_false]
      exact .next rfl (.initIssue hi hp hr)
  | initWake => exact .next hi (.initCall hi hp)
  | freq f =>
    cases hb : s.unitP.initpend with
    | true =>
      have hpos : hasPosition i true (.freq f) = true := hi
      simp only [chipCommand, hb, if_true]
      refine freqResume_answers (hb ▸ hpos) hp hpos ?_
      rintro rfl
      exact hbody s.initDone (.returns hi (.inr ⟨hp, hb, rfl⟩))
    | false =>
      simp only [chipCommand, hb, Bool.false_eq_true, if_false]
      exact hown (by simp) (by simp) fun _ _ => hb
  | _ => exact hown (by simp) (by simp) (by simp)

/-! ## The commands that complete in their first cycle -/

theorem PureLines.of_isPure {u v : State} (hi : isPure i = true)
    (h : v =
      { u with
        result0 := v.result0, result1 := v.result1
        status := { u.status with pscOor := v.status.pscOor, clamped := v.status.clamped, ovf := v.status.ovf } }) :
    PureLines i u v where
  frame := by rw [h]
  result0 := by rintro ⟨sel, rfl⟩; cases hi
  result1 h := by simp [hi] at h
  flags h := by simp [hi] at h

/-- A pure command at its start runs its lines and completes. -/
theorem Move.pure {v : State} (hi : isPure i = true) (hp : s.resumesAt .start)
    (h : v =
      { s with
        result0 := v.result0, result1 := v.result1
        status := { s.status with pscOor := v.status.pscOor, clamped := v.status.clamped, ovf := v.status.ovf } }) :
    Move i s v.complete :=
  have ⟨huses, _, hultra, hdetect⟩ := notInit_of_isPure hi
  .complete hultra hdetect (.start huses hp) (.of_isPure hi h)

theorem execNop_answers (sel : Byte) (hp : s.resumesAt p) :
    Answers (.nop sel) s (hasPosition (.nop sel) s.unitP.initpend p) (execNop s) := by
  rw [execNop, running_resumes hp]
  cases p with
  | start => exact .next rfl (.pure rfl hp rfl)
  | _ => exact .off (hasPosition_of_isPure rfl _ (by simp))

theorem execCalcPrescale_answers (sel : Byte) (hp : s.resumesAt p)
    (hd : divZeroOperands (.calcPrescale sel) s.snap = false) :
    Answers (.calcPrescale sel) s (hasPosition (.calcPrescale sel) s.unitP.initpend p) (execCalcPrescale s) := by
  rw [execCalcPrescale, running_resumes hp]
  cases p with
  | start =>
    rw [if_neg (by simpa [divZeroOperands] using hd)]
    exact .next rfl (.pure rfl hp rfl)
  | _ => exact .off (hasPosition_of_isPure rfl _ (by simp))

theorem execClampTick_answers (sel : Byte) (hp : s.resumesAt p) :
    Answers (.clampTick sel) s (hasPosition (.clampTick sel) s.unitP.initpend p) (execClampTick s) := by
  rw [execClampTick, running_resumes hp]
  cases p with
  | start => exact .next rfl (.pure rfl hp rfl)
  | _ => exact .off (hasPosition_of_isPure rfl _ (by simp))

theorem execMapLinear_answers (sel : Byte) (hp : s.resumesAt p)
    (hd : divZeroOperands (.mapLinear sel) s.snap = false) :
    Answers (.mapLinear sel) s (hasPosition (.mapLinear sel) s.unitP.initpend p) (execMapLinear s) := by
  rw [execMapLinear, running_resumes hp]
  cases p with
  | start =>
    rw [if_neg (by simpa [divZeroOperands] using hd)]
    exact .next rfl (.pure rfl hp rfl)
  | _ => exact .off (hasPosition_of_isPure rfl _ (by simp))

theorem execMapMotor_answers (sel : Byte) (hp : s.resumesAt p) :
    Answers (.mapMotor sel) s (hasPosition (.mapMotor sel) s.unitP.initpend p) (execMapMotor s) := by
  rw [execMapMotor, running_resumes hp]
  cases p with
  | start => exact .next rfl (.pure rfl hp rfl)
  | _ => exact .off (hasPosition_of_isPure rfl _ (by simp))

/-! ## The chip commands -/

theorem execInit_answers (sel : Byte) (hp : s.resumesAt p) :
    Answers (.init sel) s (hasPosition (.init sel) s.unitP.initpend p) (execInit s) := by
  rw [execInit, running_resumes hp]
  refine chipCommand_answers rfl hp (fun u hu => ⟨_, rfl, .complete rfl rfl hu ?_⟩) fun hstart hwake _ => ?_
  · exact ⟨rfl, fun _ => rfl, fun _ _ _ => rfl, fun _ => ⟨rfl, rfl⟩⟩
  · cases p with
    | start | initWake => contradiction
    | _ => rfl

/-- The lines of a frequency command after its restart write (R143, R206). -/
theorem PureLines.of_setsFreq {u : State} (hi : setsFreq i = true) (w0 w1 : Word) :
    PureLines i u ((u.setResult0 w0).setResult1 w1) where
  frame := rfl
  result0 := by rintro ⟨sel, rfl⟩; cases hi
  result1 _ h := by simp [hi] at h
  flags _ := ⟨rfl, rfl⟩

theorem setFreqDone_move (A : Nat) (hi : setsFreq i = true) (hp : s.resumesAt (.freq .restart))
    (hb : s.unitP.initpend = false) : Move i s (s.setFreqDone A) :=
  have ⟨huses, hultra, hdetect⟩ := usesInit_of_setsFreq hi
  .complete hultra hdetect (.own huses hp (.inr (.inr (.inr ⟨rfl, hb⟩)))) (.of_setsFreq hi _ _)

theorem execSetFreq_answers (sel : Byte) (hp : s.resumesAt p)
    (hd : divZeroOperands (.setFreq sel) s.snap = false) :
    Answers (.setFreq sel) s (hasPosition (.setFreq sel) s.unitP.initpend p) (execSetFreq s) := by
  rw [execSetFreq, running_resumes hp, if_neg (by simpa [divZeroOperands] using hd)]
  refine chipCommand_answers rfl hp (fun u hu => ⟨_, rfl, .freqCall _ rfl hu⟩) fun hstart hwake hb => ?_
  cases p with
  | start | initWake => contradiction
  | freq f =>
    refine freqResume_answers (by simp [hb f rfl, hasPosition, setsFreq]) hp rfl ?_
    rintro rfl
    exact ⟨_, rfl, setFreqDone_move _ rfl hp (hb _ rfl)⟩
  | _ => rfl

theorem execSetFreqPreset_answers (preset : Preset) (hp : s.resumesAt p) :
    Answers (.setFreqPreset preset) s (hasPosition (.setFreqPreset preset) s.unitP.initpend p)
      (execSetFreqPreset preset s) := by
  rw [execSetFreqPreset, running_resumes hp]
  refine chipCommand_answers rfl hp (fun u hu => ⟨_, rfl, .presetWrite rfl hu⟩) fun hstart hwake hb => ?_
  cases p with
  | start | initWake => contradiction
  | presetMode1 => exact ⟨_, rfl, .freqCall _ rfl (.own rfl hp (.inl rfl))⟩
  | freq f =>
    refine freqResume_answers (by simp [hb f rfl, hasPosition, setsFreq]) hp rfl ?_
    rintro rfl
    exact ⟨_, rfl, setFreqDone_move _ rfl hp (hb _ rfl)⟩
  | _ => rfl

/-- The lines of SET_CHANNEL after emitChannel, with the flags emitChannel raised (R144). -/
theorem PureLines.setChannel (ch : Int) {u v : State} (w0 w1 : Word)
    (h : v =
      { u with
        result0 := v.result0, result1 := v.result1
        status := { u.status with chIgn := v.status.chIgn, clamped := v.status.clamped } }) :
    PureLines (.setChannel ch) u ((v.setResult0 w0).setResult1 w1) where
  frame := by rw [h]; rfl
  result0 := by rintro ⟨_, ⟨⟩⟩
  result1 _ _ h := (h ch rfl).elim
  flags _ := by rw [h]; exact ⟨rfl, rfl⟩

theorem execSetChannel_answers (ch : Int) (hp : s.resumesAt p) :
    Answers (.setChannel ch) s (hasPosition (.setChannel ch) s.unitP.initpend p) (execSetChannel ch s) := by
  rw [execSetChannel, running_resumes hp]
  cases hch : channelValid ch with
  | true =>
    rw [if_pos rfl]
    refine chipCommand_answers hch hp (fun u hu => ?_) fun hstart hwake _ => ?_
    · exact ⟨_, emitChannel_valid hch, .channelWrite _ _ _ (.inl ⟨rfl, hch⟩) hch (fun h => nomatch h) hu⟩
    · cases p with
      | start | initWake => contradiction
      | chanFirst =>
        exact .next hch (.complete rfl rfl (.own hch hp (.inr (.inl rfl))) (.setChannel ch _ _ rfl))
      | _ => rfl
  | false =>
    rw [if_neg (by simp)]
    cases p with
    | start =>
      refine ⟨_, emitChannel_invalid hch, .complete rfl rfl (.start hch hp) (.setChannel ch _ _ rfl)⟩
    | _ =>
      exact .off (by
        simp [hasPosition, usesInit, setsFreq, writesChannel, hch, isPreset, isMotor, isUltrasonic, isFreqDetect])

/-- The lines of a command that writes RESULT0 alone after emitChannel (R201, R202, R204). -/
theorem PureLines.of_result0 {u v : State} (w0 : Word) (hi : ∀ sel, i ≠ .init sel)
    (h : v = { u with status := { u.status with chIgn := v.status.chIgn, clamped := v.status.clamped } }) :
    PureLines i u (v.setResult0 w0) where
  frame := by rw [h]; rfl
  result0 := by rintro ⟨sel, rfl⟩; exact (hi sel rfl).elim
  result1 _ _ _ := by rw [h]; rfl
  flags _ := by rw [h]; exact ⟨rfl, rfl⟩

/-- SERVO and SERVO_RANGE share their cycles (R201, R202). -/
theorem servoCommand_answers {ch off : Int} (hi : i = .servo ch ∨ i = .servoRange ch) (hp : s.resumesAt p) :
    Answers i s (hasPosition i s.unitP.initpend p) (servoCommand ch off s) := by
  have huses : usesInit i = true := by rcases hi with rfl | rfl <;> rfl
  have hwrites : writesChannel i = channelValid ch := by rcases hi with rfl | rfl <;> rfl
  have hultra : isUltrasonic i = false := by rcases hi with rfl | rfl <;> rfl
  have hdetect : isFreqDetect i = false := by rcases hi with rfl | rfl <;> rfl
  have hinit : ∀ sel, i ≠ .init sel := by rcases hi with rfl | rfl <;> simp
  rw [servoCommand, running_resumes hp]
  refine chipCommand_answers huses hp (fun u hu => ?_) fun hstart hwake _ => ?_
  · cases hch : channelValid ch with
    | true =>
      exact ⟨_, emitChannel_valid hch, .channelWrite _ _ _ (.inl ⟨rfl, hwrites.trans hch⟩) hch (by simp [hdetect]) hu⟩
    | false =>
      exact ⟨_, emitChannel_invalid hch, .complete hultra hdetect hu (.of_result0 _ hinit rfl)⟩
  · cases p with
    | start | initWake => contradiction
    | chanFirst =>
      cases hch : channelValid ch with
      | true =>
        exact .next (hwrites.trans hch)
          (.complete hultra hdetect (.own huses hp (.inr (.inl rfl))) (.of_result0 _ hinit rfl))
      | false => exact .off (hwrites.trans hch)
    | _ => rcases hi with rfl | rfl <;> rfl

theorem motorSecond_answers (port : MotorPort) (hp : s.resumesAt .chanFirst) :
    ∃ t, motorSecond port s = .next t ∧ Move (.motor port) s t := by
  have hch := (channelValid_motorWrites port (mapMotorSpeed (s32 s.snap.a0)).1).2
  unfold motorSecond
  exact ⟨_, emitChannel_valid hch,
    .channelWrite _ _ _ (.inr ⟨rfl, rfl⟩) hch (fun h => nomatch h) (.own rfl hp (.inr (.inl rfl)))⟩

theorem State.raiseClamped_raiseClamped (c d : Bool) : (s.raiseClamped c).raiseClamped d = s.raiseClamped (c || d) := by
  simp only [State.raiseClamped, Bool.or_assoc]

theorem execMotor_answers (port : MotorPort) (hp : s.resumesAt p) :
    Answers (.motor port) s (hasPosition (.motor port) s.unitP.initpend p) (execMotor port s) := by
  rw [execMotor, running_resumes hp]
  refine chipCommand_answers rfl hp (fun u hu => ?_) fun hstart hwake _ => ?_
  · have hch := (channelValid_motorWrites port (mapMotorSpeed (s32 u.snap.a0)).1).1
    refine ⟨_, emitChannel_valid hch, ?_⟩
    rw [State.raiseClamped_raiseClamped]
    exact .channelWrite _ _ _ (.inl ⟨rfl, rfl⟩) hch (fun h => nomatch h) hu
  · cases p with
    | start | initWake => contradiction
    | chanFirst => exact motorSecond_answers port hp
    | chanSecond =>
      exact ⟨_, rfl, .complete rfl rfl (.own rfl hp (.inr (.inr (.inl rfl)))) (.of_result0 _ (by simp) rfl)⟩
    | _ => rfl

/-! ## The sensors -/

theorem execUltrasonic_answers (sel : Byte) (hp : s.resumesAt p) :
    Answers (.ultrasonic sel) s (hasPosition (.ultrasonic sel) s.unitP.initpend p) (execUltrasonic s) := by
  rw [execUltrasonic, running_resumes hp]
  cases p with
  | start => exact ⟨_, rfl, .trigStart rfl hp⟩
  | trigLow k =>
    cases k with
    | zero => exact ⟨_, rfl, .trigRise rfl hp⟩
    | succ k => exact ⟨_, rfl, .trigLowWait k rfl hp⟩
  | trigHigh k =>
    cases k with
    | zero => exact ⟨_, rfl, .trigFall rfl hp⟩
    | succ k => exact ⟨_, rfl, .trigHighWait k rfl hp⟩
  | trigFall => exact ⟨_, rfl, .echoStart rfl hp⟩
  | echo => exact ⟨_, rfl, .echoCycle rfl hp⟩
  | freq f => exact .off (by simp [hasPosition, usesInit, setsFreq])
  | _ => rfl

@[simp] theorem State.raiseClamped_false (s : State) : s.raiseClamped false = s := by
  simp [State.raiseClamped]

@[simp] theorem State.raiseChIgn_false (s : State) : s.raiseChIgn false = s := by
  simp [State.raiseChIgn]

/-- FREQ_DETECT's drive clamps nothing, and on an invalid channel only CH_IGN is set (R240, R244). -/
theorem freqDetectBody_invalid {ch : Int} (h : channelValid ch = false) :
    freqDetectBody ch s = .next (s.raiseChIgn true).freqLoopStart := by
  rw [freqDetectBody, emitChannel_invalid h, show ((clampTick freqDriveOn).2 || (clampTick freqDriveOff).2) = false from rfl,
    State.raiseClamped_false]

theorem execFreqDetect_answers (ch : Int) (hp : s.resumesAt p) :
    Answers (.freqDetect ch) s (hasPosition (.freqDetect ch) s.unitP.initpend p) (execFreqDetect ch s) := by
  rw [execFreqDetect, running_resumes hp]
  split
  · exact ⟨_, rfl, .sampleCycle rfl hp⟩
  · cases hch : channelValid ch with
    | true =>
      rw [if_pos rfl]
      refine chipCommand_answers hch hp (fun u hu => ?_) fun hstart hwake _ => ?_
      · exact ⟨_, emitChannel_valid hch, .channelWrite _ _ _ (.inl ⟨rfl, hch⟩) hch (fun _ => rfl) hu⟩
      · cases p with
        | start | initWake | sample => contradiction
        | chanFirst =>
          have hmove := Move.loopStart (i := .freqDetect ch) false rfl (.own hch hp (.inr (.inl rfl)))
          rw [State.raiseChIgn_false] at hmove
          exact .next hch hmove
        | _ => rfl
    | false =>
      rw [if_neg (by simp)]
      cases p with
      | start => exact ⟨_, freqDetectBody_invalid hch, .loopStart (i := .freqDetect ch) true rfl (.start hch hp)⟩
      | sample => contradiction
      | _ => exact .off (by simp [hasPosition, usesInit, setsFreq, writesChannel, hch, isPreset, isMotor, isUltrasonic])

/-! ## Every command -/

/-- With no request outstanding and operands that code 5 lets through, `exec` moves at the command's positions and stops at
all others. -/
theorem exec_answers (hp : s.resumesAt p) (hd : divZeroOperands i s.snap = false) :
    Answers i s (hasPosition i s.unitP.initpend p) (exec i s) := by
  cases i with
  | nop sel => exact execNop_answers sel hp
  | init sel => exact execInit_answers sel hp
  | calcPrescale sel => exact execCalcPrescale_answers sel hp hd
  | setFreq sel => exact execSetFreq_answers sel hp hd
  | setChannel ch => exact execSetChannel_answers ch hp
  | clampTick sel => exact execClampTick_answers sel hp
  | mapLinear sel => exact execMapLinear_answers sel hp hd
  | mapMotor sel => exact execMapMotor_answers sel hp
  | servo ch => exact servoCommand_answers (.inl rfl) hp
  | servoRange ch => exact servoCommand_answers (.inr rfl) hp
  | motor port => exact execMotor_answers port hp
  | setFreqPreset preset => exact execSetFreqPreset_answers preset hp
  | ultrasonic sel => exact execUltrasonic_answers sel hp
  | freqDetect ch => exact execFreqDetect_answers ch hp

/-- On the operands of code 5 a command stops at its start, and SET_FREQ anywhere. -/
theorem exec_divZero (hp : s.resumesAt p) (hd : divZeroOperands i s.snap = true)
    (hstart : p = .start ∨ ∃ sel, i = .setFreq sel) : exec i s = .fault .divZero := by
  cases i with
  | setFreq sel =>
    simp only [exec, execSetFreq, running_resumes hp]
    exact if_pos (by simpa [divZeroOperands] using hd)
  | calcPrescale sel =>
    obtain rfl | ⟨_, ⟨⟩⟩ := hstart
    simp only [exec, execCalcPrescale, running_resumes hp]
    exact if_pos (by simpa [divZeroOperands] using hd)
  | mapLinear sel =>
    obtain rfl | ⟨_, ⟨⟩⟩ := hstart
    simp only [exec, execMapLinear, running_resumes hp]
    exact if_pos (by simpa [divZeroOperands] using hd)
  | _ => cases hd

/-- On the operands of code 5 no cycle without a request outstanding has a next state. -/
theorem exec_divZero_faults (hp : s.resumesAt p) (hd : divZeroOperands i s.snap = true) : ∃ r, exec i s = .fault r := by
  by_cases hstart : p = .start ∨ ∃ sel, i = .setFreq sel
  · exact ⟨_, exec_divZero hp hd hstart⟩
  · refine ⟨.offPseudocode, ?_⟩
    obtain ⟨hp', hi⟩ := not_or.1 hstart
    cases i with
    | setFreq sel => exact (hi ⟨sel, rfl⟩).elim
    | calcPrescale sel =>
      simp only [exec, execCalcPrescale, running_resumes hp]
    | mapLinear sel =>
      simp only [exec, execMapLinear, running_resumes hp]
    | _ => cases hd

/-- Every meaning is asked through `running`: it stops while IDLE and else first serves an outstanding request. -/
theorem exec_eq_running (i : Instr) (s : State) : ∃ body, exec i s = running s body := by
  cases i <;> exact ⟨_, rfl⟩

theorem exec_idle (i : Instr) (h : s.seq = .idle) : exec i s = .fault .notRunning := by
  obtain ⟨body, hbody⟩ := exec_eq_running i s
  rw [hbody, running, h]

theorem exec_breq (i : Instr) (h : s.seq = .run p) (hb : s.bus.breq = true) : exec i s = .next s.busCycle := by
  obtain ⟨body, hbody⟩ := exec_eq_running i s
  rw [hbody, running_breq h hb]

/-- SEQ's cycle of a command stops, or it is the handshake of an outstanding request, or a move at a position of the command
with operands that code 5 lets through. -/
theorem exec_outcome (i : Instr) (s : State) :
    (∃ r, exec i s = .fault r) ∨
    (∃ p, s.seq = .run p ∧ s.bus.breq = true ∧ exec i s = .next s.busCycle) ∨
    (∃ p t, s.resumesAt p ∧ divZeroOperands i s.snap = false ∧ hasPosition i s.unitP.initpend p = true ∧
      Move i s t ∧ exec i s = .next t) := by
  cases hseq : s.seq with
  | idle => exact .inl ⟨_, exec_idle i hseq⟩
  | run p =>
    cases hb : s.bus.breq with
    | true => exact .inr (.inl ⟨p, rfl, rfl, exec_breq i hseq hb⟩)
    | false =>
      have hp : s.resumesAt p := ⟨hseq, hb⟩
      cases hd : divZeroOperands i s.snap with
      | true => exact .inl (exec_divZero_faults hp hd)
      | false =>
        have hans := exec_answers hp hd
        cases hpos : hasPosition i s.unitP.initpend p with
        | false => exact .inl ⟨_, by rwa [hpos] at hans⟩
        | true =>
          rw [hpos] at hans
          obtain ⟨t, ht, hm⟩ := hans
          exact .inr (.inr ⟨p, t, hp, rfl, hpos, hm, ht⟩)

theorem exec_next {t : State} (h : exec i s = .next t) :
    (∃ p, s.seq = .run p ∧ s.bus.breq = true ∧ t = s.busCycle) ∨
    (∃ p, s.resumesAt p ∧ divZeroOperands i s.snap = false ∧ hasPosition i s.unitP.initpend p = true ∧ Move i s t) := by
  rcases exec_outcome i s with ⟨r, hr⟩ | ⟨p, hseq, hb, hr⟩ | ⟨p, u, hp, hd, hpos, hm, hr⟩
  · cases h.symm.trans hr
  · cases h.symm.trans hr
    exact .inl ⟨p, hseq, hb, rfl⟩
  · cases h.symm.trans hr
    exact .inr ⟨p, hp, hd, hpos, hm⟩

theorem exec_ne_refused (i : Instr) (s : State) (r : Refusal) : exec i s ≠ .refused r := by
  intro h
  rcases exec_outcome i s with ⟨_, hr⟩ | ⟨_, _, _, hr⟩ | ⟨_, _, _, _, _, _, hr⟩ <;> cases h.symm.trans hr

/-- A command has a next state when a request is outstanding, and at each of its positions on operands that code 5 lets
through. -/
theorem exec_progress (h : s.seq = .run p) (hd : divZeroOperands i s.snap = false)
    (hpos : hasPosition i s.unitP.initpend p = true) : ∃ t, exec i s = .next t := by
  cases hb : s.bus.breq with
  | true => exact ⟨_, exec_breq i h hb⟩
  | false =>
    have hans := exec_answers ⟨h, hb⟩ hd
    rw [hpos] at hans
    obtain ⟨t, ht, -⟩ := hans
    exact ⟨t, ht⟩

/-! ## Where the model stops -/

/-- An accepted request is a command word on an idle block whose operands code 5 lets through (R273). -/
theorem State.requestCode_eq_none_iff {w : Word} :
    s.requestCode w = none ↔
      s.status.busy = false ∧ ∃ j, decodeWord w = .ok j ∧ divZeroOperands j s.arg = false := by
  unfold State.requestCode
  cases s.status.busy with
  | true => simp
  | false =>
    cases decodeWord w with
    | error e => simp
    | ok j => simp

/-- Settles O33: the faults are `running`'s while IDLE, code 5's, and `exec_answers`' outside the command's positions; an
acceptance latches a command at its start, which is a position of every command. -/
theorem stopsOutsideAcceptedCommands : Obligations.StopsOutsideAcceptedCommands := by
  unfold Obligations.StopsOutsideAcceptedCommands
  refine ⟨fun i s => exec_idle i, fun i s p => exec_divZero, fun i s p hp hd => ?_, fun s p e hr hbusy hseq hl => ?_,
    exec_ne_refused, ?_⟩
  · have hans := exec_answers hp hd
    cases hpos : hasPosition i s.unitP.initpend p with
    | true =>
      rw [hpos] at hans
      obtain ⟨t, ht, -⟩ := hans
      simp [ht]
    | false =>
      rw [hpos] at hans
      exact iff_of_true hans rfl
  · have ha := hostAccess_busy hbusy s.input.host
    obtain ⟨hseq', hl'⟩ := hostAccess_seq ha
    rw [step_not_accepted hr ha, seqStep_badLatch (hseq'.trans hseq) (hl'.trans hl)]
    rfl
  · rintro s t off w ⟨hr, hhost⟩ hoff hk hstep
    have hacc := hostAccess_accept hoff hk
    rw [← hhost] at hacc
    rw [step_accepted hr (by rw [hacc]), hacc] at hstep
    cases hstep
    obtain ⟨-, i, hi, hd⟩ := State.requestCode_eq_none_iff.1 hk
    exact ⟨i, decodeFields_of_decodeWord hi, rfl, hd, fun _ => exec_progress (p := .start) rfl hd rfl⟩

/-! ## No stop in a state that meets the invariant -/

/-- A running command that is latched, stands at a position of its own and has valid operands has a next cycle. -/
theorem RunOk.exec_progress (h : RunOk s) (hseq : s.seq = .run p) : ∃ i t, s.latched = .ok i ∧ exec i s = .next t := by
  simp only [RunOk, hseq] at h
  obtain ⟨i, hl, hd, hpos, -⟩ := h
  simp only [positionOk, Bool.and_eq_true] at hpos
  obtain ⟨t, ht⟩ := Machine.exec_progress hseq hd hpos.1
  exact ⟨i, t, hl, ht⟩

/-- RunOk speaks of nothing that a HOST access without an acceptance changes. -/
theorem RunOk.hostAccess {h : Option HostAccess} (hs : RunOk s) (ha : (s.hostAccess h).2 = false) :
    RunOk (s.hostAccess h).1 := by
  rw [hostAccess_frame ha]
  exact hs

/-- Settles O57: RST and an acceptance always have a next state, and so has a running command at a position of its own. -/
theorem stepNeverStops : Obligations.StepNeverStops := by
  unfold Obligations.StepNeverStops Safe
  intro s hinv
  cases hr : s.input.rst with
  | true => exact ⟨_, step_of_rst hr⟩
  | false =>
    cases ha : (s.hostAccess s.input.host).2 with
    | true => exact ⟨_, step_accepted hr ha⟩
    | false =>
      cases hseq : s.seq with
      | idle => exact ⟨_, step_idle hr hseq⟩
      | run p =>
        have hrun := hinv.run.hostAccess ha
        obtain ⟨hseq', hl⟩ := hostAccess_seq ha
        obtain ⟨i, t, hi, ht⟩ := hrun.exec_progress (hseq'.trans hseq)
        rw [step_running hr ha hseq (hl.symm.trans hi), ht]
        exact ⟨_, rfl⟩

end Sys2Proof.Machine
end

section
/-! PROOFS. The exact arithmetic: the tick clamper, the channel frame, the prescaler calculator, the laws of the mappers, and
the values the rules print (spec/40_pwm_controller.md section 2, spec/41_motion_mappers.md). -/

namespace Sys2Proof.Machine

/-! ## The tick clamper -/

/-- Settles O24: the saturation at 0 and 4095, and the flag by comparison with the argument. -/
theorem clampTickSaturates : Obligations.ClampTickSaturates := by
  unfold Obligations.ClampTickSaturates
  refine fun v => ⟨fun h => ?_, fun h => ?_, fun hlo hhi => ?_⟩
  · have hne : (0 : Int) ≠ v := by omega
    rw [clampTick, clamp_of_le (by omega) (by decide), bne_iff_ne.2 hne]
  · have hne : tickMax ≠ v := by unfold tickMax; omega
    rw [clampTick, clamp_of_ge (by decide) (by unfold tickMax; omega), bne_iff_ne.2 hne]
    rfl
  · rw [clampTick, clamp_of_mem (hi := tickMax) hlo hhi, bne_self_eq_false]

theorem clampTick_mem (v : Int) : 0 ≤ (clampTick v).1 ∧ (clampTick v).1 ≤ 4095 := by
  simp only [clampTick, clamp, tickMax]
  omega

/-! ## The channel frame -/

section Frame

variable {on off ch : Int}

theorem tickLow_toNat (t : Int) : ((tickLow t).toNat : Int) = t % 256 := by
  simp only [tickLow, BitVec.toNat_ofInt]
  omega

theorem tickHigh_toNat {t : Int} (h : 0 ≤ t ∧ t ≤ 4095) : ((tickHigh t).toNat : Int) = t / 256 := by
  simp only [tickHigh, BitVec.toNat_ofInt]
  omega

/-- The frame as a number: the on-tick in the lower half, the off-tick in the upper (R138, spec/20_memory.md R74). -/
theorem frame_toNat (hon : 0 ≤ on ∧ on ≤ 4095) (hoff : 0 ≤ off ∧ off ≤ 4095) :
    ((frame on off).toNat : Int) = on + 65536 * off := by
  have h1 := tickLow_toNat on
  have h2 := tickHigh_toNat hon
  have h3 := tickLow_toNat off
  have h4 := tickHigh_toNat hoff
  simp only [frame, BitVec.toNat_append]
  rw [← Nat.shiftLeft_add_eq_or_of_lt (tickLow on).isLt, ← Nat.shiftLeft_add_eq_or_of_lt (tickHigh on).isLt,
    ← Nat.shiftLeft_add_eq_or_of_lt (tickLow off).isLt]
  simp only [Nat.shiftLeft_eq]
  omega

theorem extractLsb'_frame_toNat (hon : 0 ≤ on ∧ on ≤ 4095) (hoff : 0 ≤ off ∧ off ≤ 4095) (k n : Nat) :
    (((frame on off).extractLsb' k n).toNat : Int) = (on + 65536 * off) / 2 ^ k % 2 ^ n := by
  rw [← frame_toNat hon hoff, BitVec.extractLsb'_toNat, Nat.shiftRight_eq_div_pow]
  norm_cast

theorem channelReg_toNat (h0 : 0 ≤ ch) (h15 : ch ≤ 15) : ((channelReg ch).toNat : Int) = 0x06 + 4 * ch := by
  simp only [channelReg, regLed0, BitVec.toNat_ofInt]
  omega

end Frame

/-- Settles O25: the frame is the number on2 + 65536 * off2, and its bytes are the base-256 digits of the two ticks. -/
theorem frameLayout : Obligations.FrameLayout := by
  unfold Obligations.FrameLayout
  intro on off ch h0 h15 on2 off2 d
  have hon : 0 ≤ on2 ∧ on2 ≤ 4095 := clampTick_mem on
  have hoff : 0 ≤ off2 ∧ off2 ≤ 4095 := clampTick_mem off
  have bits (k n : Nat) : ((d.extractLsb' k n).toNat : Int) = (on2 + 65536 * off2) / 2 ^ k % 2 ^ n :=
    extractLsb'_frame_toNat hon hoff k n
  have h1 := bits 0 16
  have h2 := bits 16 16
  have h3 := bits 0 8
  have h4 := bits 8 8
  have h5 := bits 16 8
  have h6 := bits 24 8
  have h7 := bits 12 4
  have h8 := bits 28 4
  refine ⟨by omega, by omega, by omega, by omega, by omega, by omega, BitVec.eq_of_toNat_eq ?_,
    BitVec.eq_of_toNat_eq ?_, channelReg_toNat h0 h15⟩
  · change (d.extractLsb' 12 4).toNat = 0
    omega
  · change (d.extractLsb' 28 4).toNat = 0
    omega

/-! ## The prescaler calculator -/

/-- The model's quotient, over the common denominator 2 * A, is the formula of R132 rounded half up. -/
theorem floor_prescale {A : Nat} (hA : 1 ≤ A) :
    ⌊((25000000 : ℚ) / 4096) / ((A : ℚ) / 65536) + 1 / 2⌋ = ((800000000 + A) / (2 * A) : Nat) := by
  have hA' : (A : ℚ) ≠ 0 := by positivity
  have hq : ((25000000 : ℚ) / 4096) / ((A : ℚ) / 65536) + 1 / 2 =
      ((800000000 + A : Nat) : Int) / ((2 * A : Nat) : ℚ) := by
    push_cast
    field_simp
    ring
  rw [hq, Rat.floor_intCast_div_natCast]
  norm_cast

/-- Settles O23: the quotient n of 800000000 + A by 2 * A is at least 1 up to 800000000 and at most 256 from 1559455 on. -/
theorem prescaleFormula : Obligations.PrescaleFormula := by
  unfold Obligations.PrescaleFormula
  intro A hA hlt r
  have hpos : 0 < 2 * A := by omega
  have hraw : r.raw = (((800000000 + A) / (2 * A) : Nat) : Int) - 1 := rfl
  have hoor : r.oor = (decide (r.raw < 0) || decide (255 < r.raw)) := rfl
  have hbyte : r.byte = BitVec.ofInt 8 r.raw := rfl
  have h400 : (800000000 + A) / (2 * A) ≤ 400000000 := (Nat.div_le_iff_le_mul hpos).2 (by omega)
  have h1 : 1 ≤ (800000000 + A) / (2 * A) ↔ A ≤ 800000000 := by
    rw [Nat.le_div_iff_mul_le hpos]
    omega
  have h256 : (800000000 + A) / (2 * A) ≤ 256 ↔ 1559455 ≤ A := by
    rw [Nat.div_le_iff_le_mul hpos]
    omega
  refine ⟨by rw [floor_prescale hA, hraw], ?_, by simp [hoor], ?_⟩
  · rw [hbyte, BitVec.toNat_ofInt]
    omega
  · generalize (800000000 + A) / (2 * A) = n at hraw h400 h1 h256
    omega

/-! ## The mappers -/

theorem mapLinear_start {inMin inMax : Int} (h : inMin ≠ inMax) (outMin outMax : Int) :
    mapLinear inMin inMin inMax outMin outMax = outMin := by
  have hd : inMax - inMin ≠ 0 := by omega
  rw [mapLinear, sub_self, zero_mul, zero_add, Int.mul_tdiv_cancel _ hd]

theorem mapLinear_end {inMin inMax : Int} (h : inMin ≠ inMax) (outMin outMax : Int) :
    mapLinear inMax inMin inMax outMin outMax = outMax := by
  have hd : inMax - inMin ≠ 0 := by omega
  have hnum : (inMax - inMin) * (outMax - outMin) + outMin * (inMax - inMin) = outMax * (inMax - inMin) := by ring
  rw [mapLinear, hnum, Int.mul_tdiv_cancel _ hd]

/-- Over a positive input span mapLinear compares as its numerators do. -/
theorem mapLinear_le {x y inMin inMax outMin outMax : Int} (h : inMin < inMax)
    (hxy : (x - inMin) * (outMax - outMin) ≤ (y - inMin) * (outMax - outMin)) :
    mapLinear x inMin inMax outMin outMax ≤ mapLinear y inMin inMax outMin outMax :=
  Int.tdiv_le_tdiv (by omega) (by omega)

/-- Settles O27: the numerator is monotone in x with the sign of the output span; saturation is odd and monotone. -/
theorem mapperLaws : Obligations.MapperLaws := by
  unfold Obligations.MapperLaws
  refine ⟨fun x y inMin inMax outMin outMax hin hout hxy => mapLinear_le hin ?_,
    fun x y inMin inMax outMin outMax hin hout hxy => mapLinear_le hin ?_,
    fun inMin inMax outMin outMax h => ⟨mapLinear_start h outMin outMax, mapLinear_end h outMin outMax⟩,
    fun v => ?_, fun v w hvw => ?_⟩
  · exact Int.mul_le_mul_of_nonneg_right (by omega) (by omega)
  · exact Int.mul_le_mul_of_nonpos_right (by omega) (by omega)
  · simp only [mapMotorSpeed, clamp, motorScale, motorSat]
    omega
  · simp only [mapMotorSpeed, clamp, motorScale, motorSat]
    omega

/-! ## Printed values -/

/-- Settles O30: every value is a closed computation. -/
theorem printedValues : Obligations.PrintedValues := by
  unfold Obligations.PrintedValues
  decide

end Sys2Proof.Machine
end

section
/-! PROOFS. The frames of SEQ's moves, and the request port and the record of external writes: the statements about the
handshake and about the external register map (spec/10_state.md section 5, spec/20_memory.md section 1). -/

namespace Sys2Proof.Machine

variable {i : Instr} {s t u v : State} {p : SeqPos}

/-! ## What the updates with more than one outcome do -/

@[simp] theorem State.raiseNoEcho_false (s : State) : s.raiseNoEcho false = s := by
  simp [State.raiseNoEcho]

/-- ensureReady changes nothing but READY and INITPEND when it returns. -/
theorem GoesOn.eq (h : GoesOn i s u) :
    u = s ∨ s.resumesAt (.freq .restart) ∧ s.unitP.initpend = true ∧ u = s.initDone := by
  cases h with
  | start _ _ => exact .inl rfl
  | own _ _ _ => exact .inl rfl
  | returns _ hu =>
    rcases hu with ⟨-, -, rfl⟩ | ⟨hp, hb, rfl⟩
    · exact .inl rfl
    · exact .inr ⟨hp, hb, rfl⟩

/-- setFreqSeq's move changes the port, the position and SETTLE alone. -/
theorem State.freqMove_frame (f : FreqPos) (s : State) :
    s.freqMove f =
      { s with
        bus := (s.freqMove f).bus
        seq := (s.freqMove f).seq
        unitP := { s.unitP with settle := (s.freqMove f).unitP.settle } } := by
  cases f with
  | settle =>
    simp only [State.freqMove, State.settleCycle]
    split <;> rfl
  | _ => rfl

/-- An iteration of captureEcho completes, with NO_ECHO or without, or goes on to the next sample (R232). -/
theorem State.echoCycle_cases (s : State) :
    (∃ (U : UnitU) (c : Bool) (w : Int), s.echoCycle = (({ s with unitU := U } : State).raiseNoEcho c).ultrasonicDone w ∧
      U.ut = s.unitU.ut ∧ (U.ua = s.unitU.ua ∨ U.ua = s.unitU.ut)) ∨
    (∃ U : UnitU, s.echoCycle = ({ s with unitU := U } : State).goTo .echo ∧
      s.unitU.ut ≠ BitVec.ofNat 16 echoTimeoutUs ∧ U.ut = s.unitU.ut + 1 ∧
      (U.uph = s.unitU.uph ∧ U.ua = s.unitU.ua ∨ U.uph = .high ∧ U.ua = s.unitU.ut)) := by
  unfold State.echoCycle State.echoDeadline
  split
  · split
    · exact .inl ⟨_, true, 0, rfl, rfl, .inr rfl⟩
    · exact .inr ⟨_, rfl, ‹_›, rfl, .inr ⟨rfl, rfl⟩⟩
  · split
    · exact .inl ⟨s.unitU, false, _, by rw [State.raiseNoEcho_false], rfl, .inl rfl⟩
    · split
      · exact .inl ⟨s.unitU, true, 0, rfl, rfl, .inl rfl⟩
      · exact .inr ⟨_, rfl, ‹_›, rfl, .inl ⟨rfl, rfl⟩⟩

theorem State.echoCycle_frame (s : State) :
    s.echoCycle =
      { s with
        unitU := s.echoCycle.unitU
        result0 := s.echoCycle.result0
        result1 := s.echoCycle.result1
        seq := s.echoCycle.seq
        status :=
          { s.status with
            busy := s.echoCycle.status.busy, done := s.echoCycle.status.done, noEcho := s.echoCycle.status.noEcho } } := by
  rcases s.echoCycle_cases with ⟨U, c, w, h, -⟩ | ⟨U, h, -⟩ <;> rw [h] <;> rfl

/-- captureEcho's first cycle is an iteration on UT = 0 and UPH = WAIT_HIGH, and has its frame. -/
theorem State.echoStart_frame (s : State) :
    s.echoStart =
      { s with
        unitU := s.echoStart.unitU
        result0 := s.echoStart.result0
        result1 := s.echoStart.result1
        seq := s.echoStart.seq
        status :=
          { s.status with
            busy := s.echoStart.status.busy, done := s.echoStart.status.done, noEcho := s.echoStart.status.noEcho } } :=
  State.echoCycle_frame _

/-- A cycle of FREQ_DETECT's loop counts to the next sample, or takes it and then ends a window, completes, both, or neither
(R240, R245). -/
theorem State.sampleCycle_cases (s : State) :
    (s.unitF.fph.toNat + 1 < freqSampleUs ∧ s.sampleCycle = { s with unitF.fph := s.unitF.fph + 1 }) ∨
    (¬s.unitF.fph.toNat + 1 < freqSampleUs ∧ ∃ u : State,
      (s.countSample.unitF.fk.toNat % freqWindow ≠ 0 ∧ u = s.countSample ∨
        s.countSample.unitF.fk.toNat % freqWindow = 0 ∧ u = s.countSample.windowEnd) ∧
      (s.countSample.unitF.fk.toNat < freqIter ∧ s.sampleCycle = u ∨
        freqIter ≤ s.countSample.unitF.fk.toNat ∧ s.sampleCycle = u.complete)) := by
  unfold State.sampleCycle State.afterSample
  split
  · exact .inl ⟨‹_›, rfl⟩
  · refine .inr ⟨‹_›, ?_⟩
    split
    · split
      · exact ⟨_, .inr ⟨‹_›, rfl⟩, .inr ⟨‹_›, rfl⟩⟩
      · exact ⟨_, .inr ⟨‹_›, rfl⟩, .inl ⟨by omega, rfl⟩⟩
    · split
      · exact ⟨_, .inl ⟨‹_›, rfl⟩, .inr ⟨‹_›, rfl⟩⟩
      · exact ⟨_, .inl ⟨‹_›, rfl⟩, .inl ⟨by omega, rfl⟩⟩

theorem State.sampleCycle_frame (s : State) :
    s.sampleCycle =
      { s with
        unitF := s.sampleCycle.unitF
        result0 := s.sampleCycle.result0
        result1 := s.sampleCycle.result1
        seq := s.sampleCycle.seq
        status := { s.status with busy := s.sampleCycle.status.busy, done := s.sampleCycle.status.done } } := by
  rcases s.sampleCycle_cases with ⟨-, h⟩ | ⟨-, u, ⟨-, rfl⟩ | ⟨-, rfl⟩, ⟨-, h⟩ | ⟨-, h⟩⟩ <;> rw [h] <;> rfl

/-! ## The record and LAST_PSC -/

/-- No move writes the record of external writes or LAST_PSC: only the handshake does. -/
theorem Move.record (h : Move i s t) : t.chip = s.chip ∧ t.lastPsc = s.lastPsc := by
  cases h with
  | freqMove _ _ _ => rw [State.freqMove_frame]; exact ⟨rfl, rfl⟩
  | echoStart _ _ => rw [State.echoStart_frame]; exact ⟨rfl, rfl⟩
  | echoCycle _ _ => rw [State.echoCycle_frame]; exact ⟨rfl, rfl⟩
  | sampleCycle _ _ => rw [State.sampleCycle_frame]; exact ⟨rfl, rfl⟩
  | presetWrite _ hu => rcases hu.eq with rfl | ⟨-, -, rfl⟩ <;> exact ⟨rfl, rfl⟩
  | freqCall _ _ hu => rcases hu.eq with rfl | ⟨-, -, rfl⟩ <;> exact ⟨rfl, rfl⟩
  | channelWrite _ _ _ _ _ _ hu => rcases hu.eq with rfl | ⟨-, -, rfl⟩ <;> exact ⟨rfl, rfl⟩
  | complete _ _ hu hv => rw [hv.frame]; rcases hu.eq with rfl | ⟨-, -, rfl⟩ <;> exact ⟨rfl, rfl⟩
  | _ => exact ⟨rfl, rfl⟩

/-! ## The request port -/

theorem usesInit_of_writesChannel (hi : p = .chanFirst ∧ writesChannel i = true ∨ p = .chanSecond ∧ isMotor i = true) :
    usesInit i = true := by
  cases i <;> simp_all [writesChannel, isMotor, usesInit]

theorem usesInit_of_isPreset (hi : isPreset i = true) : usesInit i = true := by
  cases i <;> simp_all [isPreset, usesInit]

/-- setFreqSeq runs inside ensureReady or inside a command that calls it first. -/
theorem usesInit_of_freq {b : Bool} {f : FreqPos} (hi : hasPosition i b (.freq f) = true) : usesInit i = true := by
  simp only [hasPosition] at hi
  split at hi
  · exact hi
  · exact (usesInit_of_setsFreq hi).1

theorem inMap_write1 {r : Byte} (b : Byte) (hr : r = regMode1 ∨ r = regPrescale) :
    ({ breq := true, kind := .write1, reg := r, data := b.setWidth 32 } : BusPort).inMap := by
  have hb := b.isLt
  refine ⟨hr, ?_⟩
  simp only [BitVec.toNat_setWidth]
  omega

/-- A channel frame's request is in the map: its register is that of a channel and its ticks are clamped (R71, R75). -/
theorem inMap_frame {ch : Int} (hch : channelValid ch = true) (on off : Int) :
    ({ breq := true, kind := .write4, reg := channelReg ch
       data := frame (clampTick on).1 (clampTick off).1 } : BusPort).inMap := by
  obtain ⟨h0, h15⟩ := channelValid_iff.1 hch
  have hreg := channelReg_toNat h0 h15
  have hon := extractLsb'_frame_toNat (clampTick_mem on) (clampTick_mem off) 0 16
  have hoff := extractLsb'_frame_toNat (clampTick_mem on) (clampTick_mem off) 16 16
  have h1 := clampTick_mem on
  have h2 := clampTick_mem off
  refine ⟨⟨ch.toNat, by omega, ?_⟩, ?_, ?_⟩ <;> dsimp only <;> omega

theorem freqMove_inMap {f : FreqPos} : (s.freqMove f).bus = s.bus ∨ (s.freqMove f).bus.inMap := by
  cases f with
  | read => exact .inr (inMap_write1 _ (.inl rfl))
  | sleep => exact .inr (inMap_write1 _ (.inr rfl))
  | prescale => exact .inr (inMap_write1 _ (.inl rfl))
  | restore => exact .inl rfl
  | settle =>
    simp only [State.freqMove, State.settleCycle]
    split
    · exact .inr (inMap_write1 _ (.inl rfl))
    · exact .inl rfl
  | restart => exact .inl rfl

/-- A move leaves the port as it is or issues a request of the map, and the latter only in a command that calls ensureReady. -/
theorem Move.bus (h : Move i s t) : t.bus = s.bus ∨ usesInit i = true ∧ t.bus.inMap := by
  cases h with
  | initIssue hi _ _ => exact .inr ⟨hi, inMap_write1 _ (.inl rfl)⟩
  | initCall hi _ => exact .inr ⟨hi, rfl⟩
  | freqMove hi _ _ => exact freqMove_inMap.imp_right fun h => ⟨usesInit_of_freq hi, h⟩
  | presetWrite hi _ => exact .inr ⟨usesInit_of_isPreset hi, inMap_write1 _ (.inl rfl)⟩
  | freqCall _ hi _ => exact .inr ⟨(usesInit_of_setsFreq hi).1, rfl⟩
  | channelWrite _ _ _ hi hch _ _ => exact .inr ⟨usesInit_of_writesChannel hi, inMap_frame hch _ _⟩
  | complete _ _ hu hv => rw [hv.frame]; rcases hu.eq with rfl | ⟨-, -, rfl⟩ <;> exact .inl rfl
  | echoStart _ _ => rw [State.echoStart_frame]; exact .inl rfl
  | echoCycle _ _ => rw [State.echoCycle_frame]; exact .inl rfl
  | sampleCycle _ _ => rw [State.sampleCycle_frame]; exact .inl rfl
  | _ => exact .inl rfl

/-! ## The handshake -/

/-- The bytes of a request of the map go to external addresses (R71). -/
theorem externalAddress_of_inMap {b : BusPort} (h : b.inMap) {a : Nat} (hlo : b.reg.toNat ≤ a)
    (hhi : a < b.reg.toNat + b.kind.bytes) : externalAddress a := by
  obtain ⟨breq, kind, reg, data⟩ := b
  cases kind with
  | write1 =>
    have ha : a = reg.toNat := by simp only [BusKind.bytes] at hlo hhi; omega
    rcases h.1 with hr | hr
    · exact .inl (ha.trans (congrArg BitVec.toNat hr))
    · exact .inr (.inl (ha.trans (congrArg BitVec.toNat hr)))
  | write4 =>
    obtain ⟨⟨c, hc, hr⟩, -⟩ := h
    simp only [BusKind.bytes] at hlo hhi hr
    exact .inr (.inr (by omega))
  | read1 =>
    simp only [BusKind.bytes] at hlo hhi
    omega

theorem BusOk.busAck (h : BusOk s) : BusOk s.busAck := by
  obtain ⟨hmap, hwf, haddr, hpsc⟩ := h
  refine ⟨hmap, Memory.wf_writeBytes _ _ _ hwf, fun c hc => ?_, fun hvalid => ?_⟩
  · rcases Memory.mem_writeBytes hc with ⟨hlo, hhi⟩ | hc
    · exact externalAddress_of_inMap hmap hlo hhi
    · exact haddr c hc
  · rw [State.busAck_lastPsc] at hvalid ⊢
    split
    · next hseq => simp [hseq] at hvalid
    · next hseq => exact hpsc (by simpa [hseq] using hvalid)

theorem BusOk.busCycle (h : BusOk s) : BusOk s.busCycle := by
  rcases busCycle_cases s with ⟨-, hc⟩ | ⟨-, hc⟩ <;> rw [hc]
  · exact h.busAck
  · exact h

theorem BusOk.move (h : BusOk s) (hm : Move i s t) : BusOk t := by
  obtain ⟨hmap, hwf, haddr, hpsc⟩ := h
  obtain ⟨hchip, hlast⟩ := hm.record
  refine ⟨?_, by rwa [hchip], by rwa [hchip], by rwa [hlast]⟩
  rcases hm.bus with hbus | ⟨-, hbus⟩
  · rwa [hbus]
  · exact hbus

/-- SEQ's cycle of every command keeps the requests and the record in the map. -/
theorem BusOk.exec (h : BusOk s) (he : exec i s = .next t) : BusOk t := by
  rcases exec_next he with ⟨p, -, -, rfl⟩ | ⟨p, -, -, -, hm⟩
  · exact h.busCycle
  · exact h.move hm

theorem busOk_reset : BusOk State.reset :=
  ⟨⟨.inl rfl, by decide⟩, rfl, (fun _ hc => nomatch hc), fun _ => rfl⟩

/-- Settles O22: RST and HOST do not issue requests or record writes, a move issues only requests of the map, and the handshake
records the bytes of the request that is outstanding. -/
theorem requestsStayInChipMap : Obligations.RequestsStayInChipMap := by
  unfold Obligations.RequestsStayInChipMap
  intro s t h hstep
  cases hr : s.input.rst with
  | true =>
    cases hstep.symm.trans (step_of_rst hr)
    exact busOk_reset
  | false =>
    rcases step_next hr hstep with ⟨w, -, -, rfl⟩ | ⟨ha, -, rfl⟩ | ⟨ha, i, p, v, -, -, hv, rfl⟩
    · exact h
    · rw [hostAccess_frame ha]
      exact h
    · have hhost : BusOk (s.hostAccess s.input.host).1 := by
        rw [hostAccess_frame ha]
        exact h
      have hexec : BusOk v := hhost.exec hv
      exact hexec

end Sys2Proof.Machine
end

section
/-! PROOFS. The invariant of the block: it holds at reset, HOST keeps it, and every cycle of every command keeps it. -/

namespace Sys2Proof.Machine

variable {i : Instr} {s t u v : State} {p q : SeqPos}

/-! ## Where a move leads -/

theorem State.resumesAt.unique (hp : s.resumesAt p) (hq : s.resumesAt q) : p = q := by
  have h := hp.1.symm.trans hq.1
  cases h
  rfl

/-- setFreqSeq's move stays inside setFreqSeq, and a request is outstanding after it only at a request's position. -/
theorem freqMove_position {f : FreqPos} (hp : s.resumesAt (.freq f)) :
    ∃ g, (s.freqMove f).seq = .run (.freq g) ∧ ((s.freqMove f).bus.breq = true → (SeqPos.freq g).isBus = true) := by
  cases f with
  | settle =>
    simp only [State.freqMove, State.settleCycle]
    split
    · exact ⟨.restart, rfl, fun _ => rfl⟩
    · exact ⟨.settle, hp.1, fun h => by simp [hp.2] at h⟩
  | restore => exact ⟨.settle, rfl, fun h => by simp [State.freqMove, hp.2] at h⟩
  | restart => exact ⟨.restart, hp.1, fun _ => rfl⟩
  | read => exact ⟨.sleep, rfl, fun _ => rfl⟩
  | sleep => exact ⟨.prescale, rfl, fun _ => rfl⟩
  | prescale => exact ⟨.restore, rfl, fun _ => rfl⟩

/-- A move completes the command, with BUSY <- 0 and DONE <- 1, or leaves both and stays at a position (R130). -/
theorem Move.completes_or_runs (h : Move i s t) :
    (t.seq = .idle ∧ t.status.busy = false ∧ t.status.done = true) ∨
    (t.seq ≠ .idle ∧ t.status.busy = s.status.busy ∧ t.status.done = s.status.done) := by
  cases h with
  | freqMove _ hp _ =>
    obtain ⟨g, hseq, -⟩ := freqMove_position hp
    rw [hseq, State.freqMove_frame]
    exact .inr ⟨nofun, rfl, rfl⟩
  | presetWrite _ hu => rcases hu.eq with rfl | ⟨-, -, rfl⟩ <;> exact .inr ⟨nofun, rfl, rfl⟩
  | freqCall _ _ hu => rcases hu.eq with rfl | ⟨-, -, rfl⟩ <;> exact .inr ⟨nofun, rfl, rfl⟩
  | channelWrite _ _ _ _ _ _ hu => rcases hu.eq with rfl | ⟨-, -, rfl⟩ <;> exact .inr ⟨nofun, rfl, rfl⟩
  | complete _ _ _ _ => exact .inl ⟨rfl, rfl, rfl⟩
  | echoStart _ _ =>
    unfold State.echoStart
    rcases State.echoCycle_cases _ with ⟨U, c, w, h, -⟩ | ⟨U, h, -⟩ <;> rw [h]
    · exact .inl ⟨rfl, rfl, rfl⟩
    · exact .inr ⟨nofun, rfl, rfl⟩
  | echoCycle _ _ =>
    rcases s.echoCycle_cases with ⟨U, c, w, h, -⟩ | ⟨U, h, -⟩ <;> rw [h]
    · exact .inl ⟨rfl, rfl, rfl⟩
    · exact .inr ⟨nofun, rfl, rfl⟩
  | sampleCycle _ hp =>
    have hrun : s.seq ≠ .idle := by rw [hp.1]; nofun
    rcases s.sampleCycle_cases with ⟨-, h⟩ | ⟨-, u, ⟨-, rfl⟩ | ⟨-, rfl⟩, ⟨-, h⟩ | ⟨-, h⟩⟩ <;> rw [h]
    · exact .inr ⟨hrun, rfl, rfl⟩
    · exact .inr ⟨hrun, rfl, rfl⟩
    · exact .inl ⟨rfl, rfl, rfl⟩
    · exact .inr ⟨hrun, rfl, rfl⟩
    · exact .inl ⟨rfl, rfl, rfl⟩
  | _ => exact .inr ⟨nofun, rfl, rfl⟩

/-- Outside ensureReady INITPEND is 0 (spec/10_state.md R48). -/
theorem GoesOn.initpend (h : GoesOn i s u) (hp : s.resumesAt p) (hfit : positionFits s.unitP.initpend p = true) :
    u.unitP.initpend = false := by
  cases h with
  | start _ hq =>
    cases hp.unique hq
    simpa [positionFits] using hfit
  | own _ hq hown =>
    cases hp.unique hq
    rcases hown with rfl | rfl | rfl | ⟨rfl, hb⟩
    · simpa [positionFits] using hfit
    · simpa [positionFits] using hfit
    · simpa [positionFits] using hfit
    · exact hb
  | returns _ hu =>
    rcases hu with ⟨hq, -, rfl⟩ | ⟨-, -, rfl⟩
    · cases hp.unique hq
      simpa [positionFits] using hfit
    · rfl

/-- Outside ensureReady a command that calls it has READY = 1 (spec/40_pwm_controller.md R131). -/
theorem GoesOn.ready (h : GoesOn i s u) (hi : usesInit i = true) (hb : u.unitP.initpend = false) (hr : ReadyOk s) :
    u.status.ready = true := by
  cases h with
  | start hi' _ => simp [hi] at hi'
  | own _ hq hown => exact hr.2 _ hq.1 (by rcases hown with rfl | rfl | rfl | ⟨rfl, -⟩ <;> rfl) hb
  | returns _ hu =>
    rcases hu with ⟨-, hr, rfl⟩ | ⟨-, -, rfl⟩
    · exact hr
    · rfl

/-- What a move keeps of the control state: it completes, or it leads to a position of the command that fits INITPEND and
READY. -/
def ControlOk (i : Instr) (t : State) : Prop :=
  (t.seq = .idle ∧ t.bus.breq = false ∧ t.unitP.initpend = false) ∨
  ∃ q, t.seq = .run q ∧ positionOk i t.unitP.initpend q = true ∧ (t.bus.breq = true → q.isBus = true) ∧
    (t.unitP.initpend = true → t.status.ready = false) ∧
    (q.afterInit = true → t.unitP.initpend = false → t.status.ready = true)

/-- A position outside ensureReady, with INITPEND = 0. -/
theorem ControlOk.run (hseq : t.seq = .run q) (hb : t.unitP.initpend = false) (hpos : positionOk i false q = true)
    (hbus : t.bus.breq = true → q.isBus = true) (hready : q.afterInit = true → t.status.ready = true) : ControlOk i t :=
  .inr ⟨q, hseq, by rwa [hb], hbus, by simp [hb], fun h _ => hready h⟩

/-- A position of a sensor command: no request, INITPEND = 0, and READY is not spoken of. -/
theorem ControlOk.sensor (hseq : t.seq = .run q) (hb : t.unitP.initpend = false) (hbus : t.bus.breq = false)
    (hpos : positionOk i false q = true) (hq : q.afterInit = false) : ControlOk i t :=
  .run hseq hb hpos (by simp [hbus]) (by simp [hq])

theorem Move.control (h : Move i s t) (hp : s.resumesAt p) (hpos : positionOk i s.unitP.initpend p = true)
    (hr : ReadyOk s) : ControlOk i t := by
  have hfit : positionFits s.unitP.initpend p = true := (Bool.and_eq_true _ _ ▸ hpos).2
  have pend_false (hq : positionFits s.unitP.initpend p = !s.unitP.initpend) : s.unitP.initpend = false := by
    simpa [hfit] using hq
  cases h with
  | initIssue hi _ hready =>
    exact .inr ⟨.initWake, rfl, by simp [positionOk, hasPosition, positionFits, hi, State.initIssue], fun _ => rfl,
      fun _ => hready, fun h => nomatch h⟩
  | initCall hi hq =>
    cases hp.unique hq
    have hb : s.unitP.initpend = true := hfit
    exact .inr ⟨.freq .read, rfl, by simp [positionOk, hasPosition, positionFits, hi, State.freqStart, hb], fun _ => rfl,
      hr.1, fun _ h => by simp [State.freqStart, hb] at h⟩
  | freqMove hi hq _ =>
    obtain ⟨g, hseq, hbus⟩ := freqMove_position hq
    refine .inr ⟨.freq g, hseq, ?_, hbus, ?_, fun _ => ?_⟩ <;> rw [State.freqMove_frame]
    · exact Bool.and_eq_true _ _ ▸ ⟨hi, rfl⟩
    · exact hr.1
    · exact hr.2 _ hq.1 rfl
  | presetWrite hi hu =>
    have hb := hu.initpend hp hfit
    exact .run rfl hb (by simp [positionOk, hasPosition, positionFits, hi]) (fun _ => rfl)
      fun _ => hu.ready (usesInit_of_isPreset hi) hb hr
  | freqCall _ hi hu =>
    have hb := hu.initpend hp hfit
    exact .run rfl hb (by simp [positionOk, hasPosition, positionFits, hi]) (fun _ => rfl)
      fun _ => hu.ready (usesInit_of_setsFreq hi).1 hb hr
  | channelWrite _ _ _ hi _ _ hu =>
    have hb := hu.initpend hp hfit
    have hready := hu.ready (usesInit_of_writesChannel hi) hb hr
    rcases hi with ⟨rfl, hi⟩ | ⟨rfl, hi⟩
    · exact .run rfl hb (by simp [positionOk, hasPosition, positionFits, hi]) (fun _ => rfl) fun _ => hready
    · exact .run rfl hb (by simp [positionOk, hasPosition, positionFits, hi]) (fun _ => rfl) fun _ => hready
  | complete _ _ hu hv =>
    have hb := hu.initpend hp hfit
    refine .inl ⟨rfl, ?_, ?_⟩ <;> rw [hv.frame]
    · rcases hu.eq with rfl | ⟨-, -, rfl⟩ <;> exact hp.2
    · exact hb
  | loopStart _ hi hu => exact .sensor rfl (hu.initpend hp hfit) hp.2 (by simp [positionOk, hasPosition, positionFits, hi]) rfl
  | trigStart hi hq =>
    cases hp.unique hq
    exact .sensor rfl (pend_false rfl) hp.2 (by simp [positionOk, hasPosition, positionFits, hi, trigLowUs]) rfl
  | trigLowWait k hi hq =>
    cases hp.unique hq
    simp only [positionFits, Bool.and_eq_true, Bool.not_eq_true', decide_eq_true_eq] at hfit
    exact .sensor rfl hfit.1 hp.2 (by simp [positionOk, hasPosition, positionFits, hi]; omega) rfl
  | trigRise hi hq =>
    cases hp.unique hq
    simp only [positionFits, Bool.and_eq_true, Bool.not_eq_true', decide_eq_true_eq] at hfit
    exact .sensor rfl hfit.1 hp.2 (by simp [positionOk, hasPosition, positionFits, hi, trigHighUs]) rfl
  | trigHighWait k hi hq =>
    cases hp.unique hq
    simp only [positionFits, Bool.and_eq_true, Bool.not_eq_true', decide_eq_true_eq] at hfit
    exact .sensor rfl hfit.1 hp.2 (by simp [positionOk, hasPosition, positionFits, hi]; omega) rfl
  | trigFall hi hq =>
    cases hp.unique hq
    simp only [positionFits, Bool.and_eq_true, Bool.not_eq_true', decide_eq_true_eq] at hfit
    exact .sensor rfl hfit.1 hp.2 (by simp [positionOk, hasPosition, positionFits, hi]) rfl
  | echoStart hi hq =>
    cases hp.unique hq
    unfold State.echoStart
    rcases State.echoCycle_cases _ with ⟨U, c, w, h, -⟩ | ⟨U, h, -⟩ <;> rw [h]
    · exact .inl ⟨rfl, hp.2, pend_false rfl⟩
    · exact .sensor rfl (pend_false rfl) hp.2 (by simp [positionOk, hasPosition, positionFits, hi]) rfl
  | echoCycle hi hq =>
    cases hp.unique hq
    rcases s.echoCycle_cases with ⟨U, c, w, h, -⟩ | ⟨U, h, -⟩ <;> rw [h]
    · exact .inl ⟨rfl, hp.2, pend_false rfl⟩
    · exact .sensor rfl (pend_false rfl) hp.2 (by simp [positionOk, hasPosition, positionFits, hi]) rfl
  | sampleCycle hi hq =>
    cases hp.unique hq
    have hb := pend_false rfl
    have hsample : positionOk i false .sample = true := by simp [positionOk, hasPosition, positionFits, hi]
    rcases s.sampleCycle_cases with ⟨-, h⟩ | ⟨-, u, ⟨-, rfl⟩ | ⟨-, rfl⟩, ⟨-, h⟩ | ⟨-, h⟩⟩ <;> rw [h]
    · exact .sensor hp.1 hb hp.2 hsample rfl
    · exact .sensor hp.1 hb hp.2 hsample rfl
    · exact .inl ⟨rfl, hp.2, hb⟩
    · exact .sensor hp.1 hb hp.2 hsample rfl
    · exact .inl ⟨rfl, hp.2, hb⟩

/-! ## The sensors and the counters -/

/-- The bounds and the order that unit U and unit F keep, with what they are while they run. -/
def UnitsOk (s : State) : Prop := SensorsOk s ∧ CountersOk s

/-- Where neither sensor loop runs and TRIG_OUT is 0, unit U and unit F need only their ranges. -/
theorem SensorsOk.of_quiet (htrig : t.trigOut = false) (hecho : t.seq ≠ .run .echo) (hsample : t.seq ≠ .run .sample) :
    SensorsOk t :=
  ⟨by simp [htrig], fun h => (hecho h).elim, fun h => (hsample h).elim⟩

/-- TRIG_OUT is 0 outside the trigger pulse (spec/43_sensors.md R231). -/
theorem SensorsOk.trigOut_eq_false (h : SensorsOk s) (hseq : ∀ k, s.seq ≠ .run (.trigHigh k)) : s.trigOut = false := by
  cases ht : s.trigOut with
  | false => rfl
  | true =>
    obtain ⟨k, hk⟩ := h.1 ht
    exact (hseq k hk).elim

theorem freqMove_settle_le {f : FreqPos} (h : s.unitP.settle.toNat ≤ settleUs) :
    (s.freqMove f).unitP.settle.toNat ≤ settleUs := by
  cases f with
  | restore => exact Nat.le_refl settleUs
  | settle =>
    simp only [State.freqMove, State.settleCycle]
    split
    · exact Nat.zero_le _
    · next hgt =>
      have hsub : (s.unitP.settle - 1).toNat = s.unitP.settle.toNat - 1 := by bv_omega
      exact hsub ▸ (Nat.sub_le _ _).trans h
  | _ => exact h

theorem toNat_succ {n : Nat} {x : BitVec n} (h : x.toNat + 1 < 2 ^ n) : (x + 1).toNat = x.toNat + 1 := by
  simp [BitVec.toNat_add, Nat.mod_eq_of_lt h]

/-- An iteration of captureEcho keeps UT within the deadline and the recorded rise before the current sample (R232). -/
theorem echoCycle_unitsOk (htrig : s.trigOut = false) (hc : CountersOk s)
    (hecho : s.unitU.uph = .waitHigh ∨ (s.unitU.uph = .high ∧ s.unitU.ua.toNat < s.unitU.ut.toNat)) :
    UnitsOk s.echoCycle := by
  obtain ⟨hsettle, hut, hua, hF⟩ := hc
  rcases s.echoCycle_cases with ⟨U, c, w, h, hUt, hUa⟩ | ⟨U, h, hne, hUt, hU⟩ <;> rw [h]
  · have hUa' : U.ua.toNat ≤ echoTimeoutUs := by rcases hUa with hUa | hUa <;> rwa [hUa]
    exact ⟨.of_quiet htrig nofun nofun, hsettle, hUt ▸ hut, hUa', hF⟩
  · have hlt : s.unitU.ut.toNat < echoTimeoutUs :=
      lt_of_le_of_ne hut fun heq => hne (BitVec.eq_of_toNat_eq heq)
    have hsucc : U.ut.toNat = s.unitU.ut.toNat + 1 := by
      rw [hUt, toNat_succ]
      exact (Nat.succ_le_of_lt hlt).trans_lt (by decide)
    have hUa : U.ua.toNat ≤ echoTimeoutUs := by
      rcases hU with ⟨-, hU⟩ | ⟨-, hU⟩ <;> rwa [hU]
    refine ⟨⟨by simp [htrig], fun _ => ?_, nofun⟩, hsettle, hsucc ▸ hlt, hUa, hF⟩
    change U.uph = .waitHigh ∨ (U.uph = .high ∧ U.ua.toNat < U.ut.toNat)
    rcases hU with ⟨hph, hU⟩ | ⟨hph, hU⟩
    · rw [hph, hU, hsucc]
      exact hecho.imp_right fun h => ⟨h.1, h.2.trans (Nat.lt_succ_self _)⟩
    · rw [hph, hU, hsucc]
      exact .inr ⟨rfl, Nat.lt_succ_self _⟩

/-- Samples and edges of the current window: an edge takes a low sample and then a high one (R242). -/
def WindowOk (F : UnitF) : Prop :=
  2 * F.ec.toNat ≤ F.fk.toNat % freqWindow + (if F.prev = some true then 1 else 0)

/-- The count of a sample, before the window test (R240, R242). -/
theorem countSample_unitF (hfk : s.unitF.fk.toNat < freqIter) (hw : WindowOk s.unitF) :
    s.countSample.unitF.fk.toNat = s.unitF.fk.toNat + 1 ∧ s.countSample.unitF.fph = 0 ∧
      s.countSample.unitF.ec.toNat ≤ freqWindow / 2 ∧
      (s.countSample.unitF.fk.toNat % freqWindow ≠ 0 → WindowOk s.countSample.unitF) := by
  unfold WindowOk freqWindow freqIter at *
  have hsucc : (s.unitF.fk + 1).toNat = s.unitF.fk.toNat + 1 := toNat_succ (by omega)
  by_cases hedge : s.unitF.prev = some false ∧ s.input.freqIn = true
  · have hF : s.countSample.unitF = { fk := s.unitF.fk + 1, fph := 0, ec := s.unitF.ec + 1, prev := some true } := by
      simp [State.countSample, hedge]
    rw [hedge.1, if_neg (by simp)] at hw
    have hec : (s.unitF.ec + 1).toNat = s.unitF.ec.toNat + 1 := toNat_succ (by omega)
    simp only [hF, hsucc, hec, if_true, true_and]
    omega
  · have hF : s.countSample.unitF =
        { fk := s.unitF.fk + 1, fph := 0, ec := s.unitF.ec, prev := some s.input.freqIn } := by
      simp [State.countSample, hedge]
    simp only [hF, hsucc, true_and]
    split at hw <;> omega

theorem windowOk_of_ec_zero {F : UnitF} (h : F.ec = 0) : WindowOk F := by
  simp [WindowOk, h]

/-- A cycle of FREQ_DETECT's loop keeps the counts of the window (R242, R245). -/
theorem sampleCycle_unitsOk (htrig : s.trigOut = false) (hc : CountersOk s) (hseq : s.seq = .run .sample)
    (hfk : s.unitF.fk.toNat < freqIter) (hw : WindowOk s.unitF) : UnitsOk s.sampleCycle := by
  obtain ⟨hsettle, hut, hua, hfk', hfph, hec⟩ := hc
  obtain ⟨hsucc, hzero, hec2, hw2⟩ := countSample_unitF hfk hw
  have hfph2 : s.countSample.unitF.fph.toNat < freqSampleUs := by rw [hzero]; decide
  have hfk2 : s.countSample.unitF.fk.toNat ≤ freqIter := by omega
  have hecho : s.seq ≠ .run .echo := by rw [hseq]; nofun
  rcases s.sampleCycle_cases with ⟨hlt, h⟩ | ⟨-, u, ⟨hne, rfl⟩ | ⟨-, rfl⟩, ⟨hlt, h⟩ | ⟨-, h⟩⟩ <;> rw [h]
  · have hfph' : (s.unitF.fph + 1).toNat = s.unitF.fph.toNat + 1 :=
      toNat_succ (hlt.trans (by decide))
    exact ⟨⟨by simp [htrig], fun h => (hecho h).elim, fun _ => ⟨hfk, hw⟩⟩, hsettle, hut, hua, hfk', hfph' ▸ hlt, hec⟩
  · exact ⟨⟨by simp [State.countSample, htrig], fun h => (hecho h).elim, fun _ => ⟨hlt, hw2 hne⟩⟩, hsettle, hut, hua, hfk2,
      hfph2, hec2⟩
  · exact ⟨.of_quiet htrig nofun nofun, hsettle, hut, hua, hfk2, hfph2, hec2⟩
  · exact ⟨⟨by simp [State.windowEnd, State.countSample, htrig], fun h => (hecho h).elim,
      fun _ => ⟨hlt, windowOk_of_ec_zero rfl⟩⟩, hsettle, hut, hua, hfk2, hfph2, Nat.zero_le _⟩
  · exact ⟨.of_quiet htrig nofun nofun, hsettle, hut, hua, hfk2, hfph2, Nat.zero_le _⟩

theorem GoesOn.not_trigHigh (h : GoesOn i s u) (k : Nat) : s.seq ≠ .run (.trigHigh k) := by
  intro hk
  cases h with
  | start _ hp => cases hk.symm.trans hp.1
  | own _ hp hown =>
    cases hk.symm.trans hp.1
    rcases hown with h | h | h | ⟨h, -⟩ <;> cases h
  | returns _ hu =>
    rcases hu with ⟨hp, -⟩ | ⟨hp, -⟩
    · cases hk.symm.trans hp.1
    · cases hk.symm.trans hp.1

/-- Every move keeps what unit U and unit F are while they run, and the ranges of the counters. -/
theorem Move.units (h : Move i s t) (hs : SensorsOk s) (hc : CountersOk s) : UnitsOk t := by
  have low {q : SeqPos} (hq : s.resumesAt q) (hne : ∀ k, q ≠ .trigHigh k) : s.trigOut = false :=
    hs.trigOut_eq_false fun k hk => hne k (by simpa [hq.1] using hk)
  cases h with
  | initIssue _ hq _ => exact ⟨.of_quiet (low hq nofun) nofun nofun, hc⟩
  | initCall _ hq => exact ⟨.of_quiet (low hq nofun) nofun nofun, hc⟩
  | freqMove _ hq _ =>
    obtain ⟨g, hseq, -⟩ := freqMove_position hq
    refine ⟨.of_quiet ?_ (by rw [hseq]; nofun) (by rw [hseq]; nofun), freqMove_settle_le hc.1, ?_⟩ <;>
      rw [State.freqMove_frame]
    · exact low hq nofun
    · exact hc.2
  | presetWrite _ hu =>
    have htrig := hs.trigOut_eq_false hu.not_trigHigh
    rcases hu.eq with rfl | ⟨-, -, rfl⟩ <;> exact ⟨.of_quiet htrig nofun nofun, hc⟩
  | freqCall _ _ hu =>
    have htrig := hs.trigOut_eq_false hu.not_trigHigh
    rcases hu.eq with rfl | ⟨-, -, rfl⟩ <;> exact ⟨.of_quiet htrig nofun nofun, hc⟩
  | channelWrite _ _ _ hi _ _ hu =>
    have htrig := hs.trigOut_eq_false hu.not_trigHigh
    rcases hi with ⟨rfl, -⟩ | ⟨rfl, -⟩ <;> rcases hu.eq with rfl | ⟨-, -, rfl⟩ <;>
      exact ⟨.of_quiet htrig nofun nofun, hc⟩
  | complete _ _ hu hv =>
    have htrig := hs.trigOut_eq_false hu.not_trigHigh
    rw [hv.frame]
    rcases hu.eq with rfl | ⟨-, -, rfl⟩ <;> exact ⟨.of_quiet htrig nofun nofun, hc⟩
  | loopStart _ _ hu =>
    have htrig := hs.trigOut_eq_false hu.not_trigHigh
    obtain ⟨hsettle, hut, hua, -⟩ := hc
    have hfk : (0 : BitVec 11).toNat < freqIter := by decide
    have hfph : (0 : BitVec 10).toNat < freqSampleUs := by decide
    exact ⟨⟨fun h => by simp [htrig] at h, nofun, fun _ => ⟨hfk, windowOk_of_ec_zero rfl⟩⟩, hsettle, hut, hua,
      hfk.le, hfph, Nat.zero_le _⟩
  | trigStart _ _ => exact ⟨.of_quiet rfl nofun nofun, hc⟩
  | trigLowWait _ _ hq => exact ⟨.of_quiet (low hq nofun) nofun nofun, hc⟩
  | trigRise _ _ => exact ⟨⟨fun _ => ⟨_, rfl⟩, nofun, nofun⟩, hc⟩
  | trigHighWait _ _ _ => exact ⟨⟨fun _ => ⟨_, rfl⟩, nofun, nofun⟩, hc⟩
  | trigFall _ _ => exact ⟨.of_quiet rfl nofun nofun, hc⟩
  | echoStart _ hq =>
    obtain ⟨hsettle, -, hua, hF⟩ := hc
    exact echoCycle_unitsOk (low hq nofun) ⟨hsettle, Nat.zero_le _, hua, hF⟩ (.inl rfl)
  | echoCycle _ hq => exact echoCycle_unitsOk (low hq nofun) hc (hs.2.1 hq.1)
  | sampleCycle _ hq =>
    obtain ⟨hfk, hw⟩ := hs.2.2 hq.1
    exact sampleCycle_unitsOk (low hq nofun) hc hq.1 hfk hw

/-! ## SEQ's cycle keeps the invariant -/

theorem Inv.busCycle (h : Inv s) : Inv s.busCycle := by
  rcases busCycle_cases s with ⟨-, hc⟩ | ⟨-, hc⟩ <;> rw [hc]
  · exact
      { status := h.status
        run := by
          have hrun := h.run
          unfold RunOk at hrun ⊢
          cases hseq : s.seq with
          | idle =>
            simp only [hseq] at hrun
            simp [hseq, hrun.2]
          | run p =>
            simp only [hseq] at hrun
            obtain ⟨i, hl, hd, hpos, -⟩ := hrun
            simp only [State.busAck_seq, hseq]
            exact ⟨i, hl, hd, hpos, nofun⟩
        ready := h.ready
        sensors := h.sensors
        counters := h.counters
        bus := h.bus.busAck }
  · exact h

theorem latched_of_seqFrame (h : t.seqFrame = s.seqFrame) : t.latched = s.latched := by
  have hop : t.opL = s.opL := congrArg SeqFrame.opL h
  have hsel : t.selL = s.selL := congrArg SeqFrame.selL h
  rw [State.latched, State.latched, hop, hsel]

/-- A move of the latched command keeps the invariant. -/
theorem Inv.move (h : Inv s) (hp : s.resumesAt p) (hl : s.latched = .ok i) (hpos : positionOk i s.unitP.initpend p = true)
    (hd : divZeroOperands i s.snap = false) (hframe : t.seqFrame = s.seqFrame) (hm : Move i s t) : Inv t := by
  have herr : t.status.err = s.status.err := congrArg SeqFrame.err hframe
  have hcode : t.status.errcode = s.status.errcode := congrArg SeqFrame.errcode hframe
  have hsnap : t.snap = s.snap := congrArg SeqFrame.snap hframe
  have hl' : t.latched = .ok i := (latched_of_seqFrame hframe).trans hl
  have hbusy : s.status.busy = true := by
    simpa [hp.1] using h.status.1
  obtain ⟨hsensors, hcounters⟩ := hm.units h.sensors h.counters
  have hctl := hm.control hp hpos h.ready
  refine ⟨⟨?_, by rw [herr, hcode]; exact h.status.2.1, by rw [hcode]; exact h.status.2.2⟩, ?_, ?_, hsensors, hcounters,
    h.bus.move hm⟩
  · rcases hm.completes_or_runs with ⟨hseq, hb, -⟩ | ⟨hseq, hb, -⟩
    · simp [hseq, hb]
    · simp [hseq, hb, hbusy]
  · unfold RunOk
    rcases hctl with ⟨hseq, hb, hpend⟩ | ⟨q, hseq, hq, hbus, -⟩
    · simp [hseq, hb, hpend]
    · simp only [hseq]
      exact ⟨i, hl', hsnap ▸ hd, hq, hbus⟩
  · rcases hctl with ⟨hseq, -, hpend⟩ | ⟨q, hseq, -, -, hr0, hr1⟩
    · exact ⟨by simp [hpend], by simp [hseq]⟩
    · refine ⟨hr0, fun p' hp' ha hb => ?_⟩
      cases hseq.symm.trans hp'
      exact hr1 ha hb

theorem Inv.exec (h : Inv s) (hl : s.latched = .ok i) (he : exec i s = .next t) : Inv t := by
  have hframe := exec_keepsFrame i s t he
  rcases exec_next he with ⟨p, -, -, rfl⟩ | ⟨p, hp, hd, -, hm⟩
  · exact h.busCycle
  · have hrun := h.run
    simp only [RunOk, hp.1] at hrun
    obtain ⟨j, hj, -, hpos, -⟩ := hrun
    cases hl.symm.trans hj
    exact h.move hp hl hpos hd hframe hm

/-! ## RST and HOST keep the invariant -/

/-- Settles O55: each component is a closed fact about State.reset. -/
theorem resetMeetsTheInvariant : Obligations.ResetMeetsTheInvariant := by
  unfold Obligations.ResetMeetsTheInvariant
  exact
    { status := by unfold StatusOk; decide
      run := ⟨rfl, rfl⟩
      ready := ⟨nofun, nofun⟩
      sensors := ⟨nofun, nofun, nofun⟩
      counters := by unfold CountersOk; decide
      bus := busOk_reset }

/-- The part of StatusOk that HOST can touch: ERRCODE is 0 exactly while ERR is 0, and at most 5 (spec/60_exceptions.md
R272). -/
def ErrOk (st : Status) : Prop := (st.err = false ↔ st.errcode = 0) ∧ st.errcode.toNat ≤ 5

theorem ErrOk.w1c {st : Status} (h : ErrOk st) (v : Word) : ErrOk (st.w1c v) := by
  unfold ErrOk Status.w1c at *
  cases v.getLsbD 3 with
  | true => simp
  | false => simpa using h

theorem ErrOk.capture {st : Status} (h : ErrOk st) {k : BitVec 4} (h0 : k ≠ 0) (h5 : k.toNat ≤ 5) : ErrOk (st.capture k) := by
  cases he : st.err with
  | true => rwa [Status.capture_of_err_true k he]
  | false =>
    rw [Status.capture_of_err_false k he]
    exact ⟨iff_of_false nofun h0, h5⟩

theorem requestCode_range {w : Word} {k : BitVec 4} (h : s.requestCode w = some k) : k ≠ 0 ∧ k.toNat ≤ 5 := by
  rw [s.requestCode_eq w] at h
  (repeat' split at h) <;> cases h <;> decide

theorem hostAccess_errOk (h : ErrOk s.status) (a : Option HostAccess) : ErrOk (s.hostAccess a).1.status := by
  rcases a with _ | ⟨off⟩ | ⟨off, v⟩
  · exact h
  · exact h
  · rcases Nat.lt_or_ge (off.toNat / 4) 2 with hlt | hge
    · obtain h0 | h1 : off.toNat / 4 = 0 ∨ off.toNat / 4 = 1 := by omega
      · cases hk : s.requestCode v with
        | none => rwa [hostAccess_accept h0 hk]
        | some k =>
          rw [hostAccess_rejected h0 hk]
          exact h.capture (requestCode_range hk).1 (requestCode_range hk).2
      · rw [hostAccess_writeStatus s v h1]
        exact h.w1c v
    · rwa [hostAccess_writeArg s v hge]

/-- An acceptance takes an idle block that meets the invariant to a command at its start (R34, R36). -/
theorem Inv.accept {w : Word} (h : Inv s) (hk : s.requestCode w = none) : Inv (State.accept w { s with rdata := none }) := by
  obtain ⟨hbusy, i, hi, hd⟩ := State.requestCode_eq_none_iff.1 hk
  have hidle : s.seq = .idle := h.status.1.2 hbusy
  have hrun := h.run
  simp only [RunOk, hidle] at hrun
  obtain ⟨hb, hpend⟩ := hrun
  have htrig : s.trigOut = false := h.sensors.trigOut_eq_false (by simp [hidle])
  exact
    { status := ⟨by simp, h.status.2⟩
      run := ⟨i, decodeFields_of_decodeWord hi, hd, by simp [positionOk, hasPosition, positionFits, hpend], by simp [hb]⟩
      ready := ⟨by simp [hpend], fun p hp ha => by cases hp; cases ha⟩
      sensors := .of_quiet htrig nofun nofun
      counters := h.counters
      bus := h.bus }

/-- Settles O56: RST gives the reset state, an acceptance a command at its start, a HOST access changes only operands, read
data and flags, and SEQ's cycle is a handshake or a move of the latched command. -/
theorem stepKeepsTheInvariant : Obligations.StepKeepsTheInvariant := by
  unfold Obligations.StepKeepsTheInvariant
  intro s t h hstep
  cases hr : s.input.rst with
  | true =>
    cases hstep.symm.trans (step_of_rst hr)
    exact { resetMeetsTheInvariant with }
  | false =>
    have hhost (ha : (s.hostAccess s.input.host).2 = false) : Inv (s.hostAccess s.input.host).1 := by
      have herr : ErrOk (s.hostAccess s.input.host).1.status := hostAccess_errOk h.status.2 _
      rw [hostAccess_frame ha] at herr ⊢
      exact ⟨⟨h.status.1, herr⟩, h.run, h.ready, h.sensors, h.counters, h.bus⟩
    rcases step_next hr hstep with ⟨w, -, hk, rfl⟩ | ⟨ha, -, rfl⟩ | ⟨ha, i, p, v, -, hl, hv, rfl⟩
    · exact { h.accept hk with }
    · exact { hhost ha with }
    · exact { (hhost ha).exec ((hostAccess_seq ha).2.trans hl) hv with }

end Sys2Proof.Machine
end

section
/-! PROOFS. No HOST action changes the behaviour of a running command (spec/20_memory.md R85): SEQ's cycle depends on, and
writes, only what HOST cannot touch. -/

namespace Sys2Proof.Machine

/-! ## What a running command sees -/

/-- The state as a running command sees it: HOST's operands, read data and access, and the flags HOST can clear, are put to
fixed values; of the environment only the pins and XPORT's answer in this cycle are left. -/
def State.execView (s : State) : State :=
  { s with
    arg := State.reset.arg
    rdata := none
    status := { State.reset.status with busy := s.status.busy, ready := s.status.ready }
    env := [{ s.input with rst := false, host := none }] }

/-- The outcome as a running command sees it. -/
def viewOutcome : Result → Result
  | .next s => .next s.execView
  | .fault r => .fault r
  | .refused r => .refused r

/-- `f` is blind to what a running command does not see: its outcome on `s` and on the view of `s` look the same. -/
def Blind (f : State → Result) : Prop := ∀ s, viewOutcome (f s) = viewOutcome (f s.execView)

/-- The same for an update of the state. -/
def BlindUpdate (g : State → State) : Prop := ∀ s, (g s).execView = (g s.execView).execView

variable {f : State → Result} {g : State → State}

theorem Blind.next (h : BlindUpdate g) : Blind fun s => .next (g s) := fun s => congrArg Host.Outcome.next (h s)

theorem Blind.fault (r : Fault) : Blind fun _ => .fault r := fun _ => rfl

theorem Blind.comp (hf : Blind f) (hg : BlindUpdate g) : Blind fun s => f (g s) := fun s => by
  rw [hf (g s), hg s, ← hf (g s.execView)]

/-- A choice by what a running command sees. -/
theorem Blind.ite {f' : State → Result} {c : State → Prop} [∀ s, Decidable (c s)] (hc : ∀ s, c s.execView ↔ c s)
    (hf : Blind f) (hf' : Blind f') : Blind fun s => if c s then f s else f' s := fun s => by
  by_cases h : c s
  · simp only [h, (hc s).2 h, if_true]
    exact hf s
  · simp only [h, mt (hc s).1 h, if_false]
    exact hf' s

theorem BlindUpdate.ite {g' : State → State} {c : State → Prop} [∀ s, Decidable (c s)] (hc : ∀ s, c s.execView ↔ c s)
    (hg : BlindUpdate g) (hg' : BlindUpdate g') : BlindUpdate fun s => if c s then g s else g' s := fun s => by
  by_cases h : c s
  · simp only [h, (hc s).2 h, if_true]
    exact hg s
  · simp only [h, mt (hc s).1 h, if_false]
    exact hg' s

/-! ## The shared operations -/

theorem busCycle_blind : BlindUpdate State.busCycle :=
  .ite (c := fun s => s.input.back = true) (fun _ => Iff.rfl) (fun _ => rfl) fun _ => rfl

theorem running_blind {body : State → SeqPos → Result} (h : ∀ p, Blind fun s => body s p) :
    Blind fun s => running s (body s) := by
  intro s
  cases hseq : s.seq with
  | idle =>
    have hview : s.execView.seq = .idle := hseq
    simp only [running, hseq, hview]
  | run p =>
    have hview : s.execView.seq = .run p := hseq
    simp only [running, hseq, hview]
    exact Blind.ite (c := fun s => s.bus.breq = true) (fun _ => Iff.rfl) (.next busCycle_blind) (h p) s

theorem freqMove_blind (f : FreqPos) : BlindUpdate (State.freqMove f) := by
  cases f with
  | settle => exact .ite (c := fun s => s.unitP.settle.toNat ≤ 1) (fun _ => Iff.rfl) (fun _ => rfl) fun _ => rfl
  | _ => exact fun _ => rfl

theorem freqResume_blind (p : FreqPos) {after : State → Result} (h : Blind after) : Blind fun s => freqResume p s after :=
  .ite (c := fun _ => p = .restart) (fun _ => Iff.rfl) h (.next (freqMove_blind p))

theorem ensureReady_blind {after : State → Result} (h : Blind after) : Blind fun s => ensureReady s after :=
  .ite (c := fun s => s.status.ready = true) (fun _ => Iff.rfl) h (.next fun _ => rfl)

theorem chipCommand_blind (p : SeqPos) {body : State → Result} {own : State → SeqPos → Result} (hbody : Blind body)
    (hown : ∀ q, Blind fun s => own s q) : Blind fun s => chipCommand p s body (own s) := by
  cases p with
  | start => exact ensureReady_blind hbody
  | initWake => exact .next fun _ => rfl
  | freq f =>
    exact .ite (c := fun s => s.unitP.initpend = true) (fun _ => Iff.rfl)
      (freqResume_blind f (hbody.comp fun _ => rfl)) (hown (.freq f))
  | _ => exact hown _

/-- emitChannel with ticks that a running command sees. -/
theorem emitChannel_blind (ch : State → Int) (on off : State → Int) (p : SeqPos) {after : State → Result}
    (hch : ∀ s, ch s.execView = ch s) (hon : ∀ s, on s.execView = on s) (hoff : ∀ s, off s.execView = off s)
    (h : Blind after) : Blind fun s => emitChannel (ch s) (on s) (off s) p s after := by
  intro s
  simp only [hch, hon, hoff]
  let raise (u : State) : State := u.raiseClamped ((clampTick (on s)).2 || (clampTick (off s)).2)
  exact Blind.ite (c := fun _ => channelValid (ch s) = true) (fun _ => Iff.rfl)
    (.next (g := fun u => (raise u).busWrite4 _ _ p) fun _ => rfl)
    (h.comp (g := fun u => (raise u).raiseChIgn true) fun _ => rfl) s

/-! ## The commands -/

theorem setChannelBody_blind (ch : Int) : Blind (setChannelBody ch) :=
  emitChannel_blind (fun _ => ch) (fun s => s32 s.snap.a0) (fun s => s32 s.snap.a1) .chanFirst (fun _ => rfl)
    (fun _ => rfl) (fun _ => rfl) (.next fun _ => rfl)

theorem execNop_blind : Blind execNop :=
  running_blind fun p => by
    cases p with
    | start => exact .next fun _ => rfl
    | _ => exact .fault _

theorem execInit_blind : Blind execInit :=
  running_blind fun p => chipCommand_blind p (.next fun _ => rfl) fun _ => .fault _

theorem execCalcPrescale_blind : Blind execCalcPrescale :=
  running_blind fun p => by
    cases p with
    | start => exact .ite (c := fun s => s.snap.a0 = 0) (fun _ => Iff.rfl) (.fault _) (.next fun _ => rfl)
    | _ => exact .fault _

theorem execSetFreq_blind : Blind execSetFreq :=
  running_blind fun p =>
    .ite (c := fun s => s.snap.a0 = 0) (fun _ => Iff.rfl) (.fault _) <|
      chipCommand_blind p (.next fun _ => rfl) fun q => by
        cases q with
        | freq f => exact freqResume_blind f (.next fun _ => rfl)
        | _ => exact .fault _

theorem execSetChannel_blind (ch : Int) : Blind (execSetChannel ch) :=
  running_blind fun p => by
    refine .ite (c := fun _ => channelValid ch = true) (fun _ => Iff.rfl) ?_ ?_
    · refine chipCommand_blind p (setChannelBody_blind ch) fun q => ?_
      cases q with
      | chanFirst => exact .next fun _ => rfl
      | _ => exact .fault _
    · cases p with
      | start => exact setChannelBody_blind ch
      | _ => exact .fault _

theorem execClampTick_blind : Blind execClampTick :=
  running_blind fun p => by
    cases p with
    | start => exact .next fun _ => rfl
    | _ => exact .fault _

theorem execMapLinear_blind : Blind execMapLinear :=
  running_blind fun p => by
    cases p with
    | start => exact .ite (c := fun s => s.snap.a1 = s.snap.a2) (fun _ => Iff.rfl) (.fault _) (.next fun _ => rfl)
    | _ => exact .fault _

theorem execMapMotor_blind : Blind execMapMotor :=
  running_blind fun p => by
    cases p with
    | start => exact .next fun _ => rfl
    | _ => exact .fault _

theorem servoCommand_blind (ch : Int) (off : State → Int) (hoff : ∀ s, off s.execView = off s) :
    Blind fun s => servoCommand ch (off s) s := by
  intro s
  simp only [hoff]
  suffices h : Blind (servoCommand ch (off s)) from h s
  refine running_blind fun p => chipCommand_blind p ?_ fun q => ?_
  · exact emitChannel_blind (fun _ => ch) (fun _ => 0) (fun _ => off s) .chanFirst (fun _ => rfl) (fun _ => rfl)
      (fun _ => rfl) (.next fun _ => rfl)
  · cases q with
    | chanFirst => exact .ite (c := fun _ => channelValid ch = true) (fun _ => Iff.rfl) (.next fun _ => rfl) (.fault _)
    | _ => exact .fault _

theorem motorSecond_blind (port : MotorPort) : Blind (motorSecond port) :=
  emitChannel_blind (fun s => (motorWrites port (mapMotorSpeed (s32 s.snap.a0)).1).2.1) (fun _ => 0)
    (fun s => (motorWrites port (mapMotorSpeed (s32 s.snap.a0)).1).2.2) .chanSecond (fun _ => rfl) (fun _ => rfl)
    (fun _ => rfl) (.next fun _ => rfl)

theorem motorFirst_blind (port : MotorPort) : Blind (motorFirst port) :=
  Blind.comp (g := fun s => s.raiseClamped (mapMotorSpeed (s32 s.snap.a0)).2)
    (f := fun s => emitChannel (motorWrites port (mapMotorSpeed (s32 s.snap.a0)).1).1.1 0
      (motorWrites port (mapMotorSpeed (s32 s.snap.a0)).1).1.2 .chanFirst s (motorSecond port))
    (emitChannel_blind (fun s => (motorWrites port (mapMotorSpeed (s32 s.snap.a0)).1).1.1) (fun _ => 0)
      (fun s => (motorWrites port (mapMotorSpeed (s32 s.snap.a0)).1).1.2) .chanFirst (fun _ => rfl) (fun _ => rfl)
      (fun _ => rfl) (motorSecond_blind port))
    fun _ => rfl

theorem execMotor_blind (port : MotorPort) : Blind (execMotor port) :=
  running_blind fun p => chipCommand_blind p (motorFirst_blind port) fun q => by
    cases q with
    | chanFirst => exact motorSecond_blind port
    | chanSecond => exact .next fun _ => rfl
    | _ => exact .fault _

theorem execSetFreqPreset_blind (preset : Preset) : Blind (execSetFreqPreset preset) :=
  running_blind fun p => chipCommand_blind p (.next fun _ => rfl) fun q => by
    cases q with
    | presetMode1 => exact .next fun _ => rfl
    | freq f => exact freqResume_blind f (.next fun _ => rfl)
    | _ => exact .fault _

theorem echoDeadline_blind : BlindUpdate State.echoDeadline :=
  .ite (c := fun s => s.unitU.ut = BitVec.ofNat 16 echoTimeoutUs) (fun _ => Iff.rfl) (fun _ => rfl) fun _ => rfl

theorem echoCycle_blind : BlindUpdate State.echoCycle :=
  .ite (c := fun s => s.unitU.uph = .waitHigh ∧ s.input.echoIn = true) (fun _ => Iff.rfl)
    (fun s => echoDeadline_blind { s with unitU := { s.unitU with ua := s.unitU.ut, uph := .high } })
    (.ite (c := fun s => s.unitU.uph = .high ∧ s.input.echoIn = false) (fun _ => Iff.rfl) (fun _ => rfl)
      echoDeadline_blind)

theorem execUltrasonic_blind : Blind execUltrasonic :=
  running_blind fun p => by
    cases p with
    | start => exact .next fun _ => rfl
    | trigLow k => cases k <;> exact .next fun _ => rfl
    | trigHigh k => cases k <;> exact .next fun _ => rfl
    | trigFall => exact .next fun s => echoCycle_blind { s with unitU := { s.unitU with ut := 0, uph := .waitHigh } }
    | echo => exact .next echoCycle_blind
    | _ => exact .fault _

theorem windowTest_blind :
    BlindUpdate fun s => if s.unitF.fk.toNat % freqWindow = 0 then s.windowEnd else s :=
  .ite (c := fun s => s.unitF.fk.toNat % freqWindow = 0) (fun _ => Iff.rfl) (fun _ => rfl) fun _ => rfl

theorem afterSample_blind : BlindUpdate State.afterSample :=
  .ite (c := fun s => freqIter ≤ s.unitF.fk.toNat) (fun _ => Iff.rfl)
    (fun s => congrArg (fun u => u.complete.execView) (windowTest_blind s)) windowTest_blind

theorem sampleCycle_blind : BlindUpdate State.sampleCycle :=
  .ite (c := fun s => s.unitF.fph.toNat + 1 < freqSampleUs) (fun _ => Iff.rfl) (fun _ => rfl)
    fun s => afterSample_blind s.countSample

theorem freqDetectBody_blind (ch : Int) : Blind (freqDetectBody ch) :=
  emitChannel_blind (fun _ => ch) (fun _ => freqDriveOn) (fun _ => freqDriveOff) .chanFirst (fun _ => rfl)
    (fun _ => rfl) (fun _ => rfl) (.next fun _ => rfl)

theorem execFreqDetect_blind (ch : Int) : Blind (execFreqDetect ch) :=
  running_blind fun p => by
    split
    · exact .next sampleCycle_blind
    · refine .ite (c := fun _ => channelValid ch = true) (fun _ => Iff.rfl) ?_ ?_
      · refine chipCommand_blind p (freqDetectBody_blind ch) fun q => ?_
        cases q with
        | chanFirst => exact .next fun _ => rfl
        | _ => exact .fault _
      · split
        · exact freqDetectBody_blind ch
        · exact .fault _

/-- SEQ's cycle of every command is blind to what HOST can touch. -/
theorem exec_blind (i : Instr) : Blind (exec i) := by
  cases i with
  | nop _ => exact execNop_blind
  | init _ => exact execInit_blind
  | calcPrescale _ => exact execCalcPrescale_blind
  | setFreq _ => exact execSetFreq_blind
  | setChannel ch => exact execSetChannel_blind ch
  | clampTick _ => exact execClampTick_blind
  | mapLinear _ => exact execMapLinear_blind
  | mapMotor _ => exact execMapMotor_blind
  | servo ch => exact servoCommand_blind ch (fun s => servoTick (s32 s.snap.a0)) fun _ => rfl
  | servoRange ch =>
    exact servoCommand_blind ch (fun s => servoTickRange (s32 s.snap.a0) (s32 s.snap.a1) (s32 s.snap.a2)) fun _ => rfl
  | motor port => exact execMotor_blind port
  | setFreqPreset preset => exact execSetFreqPreset_blind preset
  | ultrasonic _ => exact execUltrasonic_blind
  | freqDetect ch => exact execFreqDetect_blind ch

/-! ## Two cycles that differ only in what HOST does -/

variable {s s' t : State}

/-- SameExecution, with the same masks, cycle number and inputs but for HOST's, is the same view. -/
theorem execView_eq_of_sameExecution (h : SameExecution s s') (hm : s.masks = s'.masks) (hc : s.cycle = s'.cycle)
    (hin : ({ s.input with rst := false, host := none } : CycleInput) = { s'.input with rst := false, host := none }) :
    s.execView = s'.execView := by
  obtain ⟨h1, h2, h3, h4, h5, h6, h7, h8, h9, h10, h11, h12, h13, h14, h15⟩ := h
  simp only [State.execView, h1, h2, h3, h4, h5, h6, h7, h8, h9, h10, h11, h12, h13, h14, h15, hm, hc, hin]

theorem sameExecution_of_execView_eq (h : s.execView = s'.execView) : SameExecution s s' := by
  simp only [State.execView, State.mk.injEq, Status.mk.injEq] at h
  obtain ⟨-, h1, h2, ⟨h3, h4, -⟩, h5, h6, h7, h8, h9, h10, h11, h12, h13, h14, -, h15, -⟩ := h
  exact ⟨h9, h6, h7, h8, h1, h2, h5, h10, h11, h12, h13, h14, h15, h3, h4⟩

/-- A HOST access that is no acceptance is not seen by the running command. -/
theorem hostAccess_execView {a : Option HostAccess} (ha : (s.hostAccess a).2 = false) :
    (s.hostAccess a).1.execView = s.execView := by
  rw [hostAccess_frame ha]
  rfl

/-- Outcomes that look the same: if one has a next state, so has the other, and they agree on the execution. -/
theorem sameExecution_of_viewOutcome {r r' : Result} (h : viewOutcome r = viewOutcome r') (hr : r = .next t) :
    ∃ t', r' = .next t' ∧ SameExecution t t' := by
  subst hr
  cases r' with
  | next t' => exact ⟨t', rfl, sameExecution_of_execView_eq (by simpa [viewOutcome] using h)⟩
  | fault _ => cases h
  | refused _ => cases h

/-- Settles O18: while BUSY = 1 neither access is an acceptance, so both cycles are SEQ's cycle of the one latched command on
states with the same view. -/
theorem hostCannotDisturbRunningCommand : Obligations.HostCannotDisturbRunningCommand := by
  unfold Obligations.HostCannotDisturbRunningCommand
  intro s s' t x h rest rest' hsame hm hc henv henv' hrst hbusy hrun hstep
  have hin : s.input = x := by rw [State.input, henv]
  have hin' : s'.input = { x with host := h } := by rw [State.input, henv']
  have hview := execView_eq_of_sameExecution hsame hm hc (by rw [hin, hin'])
  have hr : s.input.rst = false := by rw [hin, hrst]
  have hr' : s'.input.rst = false := by rw [hin', hrst]
  have ha := hostAccess_busy hbusy s.input.host
  obtain ⟨hseq, hopL, hselL, -, -, -, -, -, -, -, -, -, -, hbusy', -⟩ := hsame
  have ha' := hostAccess_busy (hbusy'.symm.trans hbusy) s'.input.host
  rcases step_next hr hstep with ⟨_, hacc, -⟩ | ⟨-, hidle, -⟩ | ⟨-, i, p, v, hp, hl, hv, rfl⟩
  · simp [ha] at hacc
  · exact (hrun hidle).elim
  · have hl' : s'.latched = .ok i := by rw [← hl, State.latched, State.latched, hopL, hselL]
    have hout : viewOutcome (exec i (s.hostAccess s.input.host).1) = viewOutcome (exec i (s'.hostAccess s'.input.host).1) := by
      rw [exec_blind i (s.hostAccess _).1, exec_blind i (s'.hostAccess _).1, hostAccess_execView ha,
        hostAccess_execView ha', hview]
    obtain ⟨v', hv', hsame'⟩ := sameExecution_of_viewOutcome hout hv
    rw [step_running hr' ha' (hseq.symm.trans hp) hl', hv']
    exact ⟨v'.tick, rfl, hsame'⟩

end Sys2Proof.Machine
end

section
/-! PROOFS. What a step keeps, from every state: the handshake, READY, BUSY and the idle block (spec/10_state.md R43, R45,
spec/20_memory.md R82). -/

namespace Sys2Proof.Machine

variable {i : Instr} {s t u v : State} {p : SeqPos}

/-! ## The handshake -/

/-- Settles O19: with BREQ = 1 every command's cycle is the handshake, and the record takes the bytes of the request. -/
theorem busHandshake : Obligations.BusHandshake := by
  unfold Obligations.BusHandshake
  intro i s p hseq hb
  rw [exec_breq i hseq hb]
  refine ⟨fun hback => ?_, fun hback => ?_⟩
  · rw [State.busCycle, if_neg (by simp [hback])]
  · refine ⟨Memory.writeBytes s.chip s.bus.reg.toNat s.bus.data s.bus.kind.bytes, ?_, Memory.read_writeBytes _ _ _ _,
      Memory.wf_writeBytes _ _ _⟩
    rw [State.busCycle, if_pos hback]
    simp only [State.busAck, hseq, SeqState.run.injEq]

theorem hostAccess_bus {a : Option HostAccess} (ha : (s.hostAccess a).2 = false) :
    (s.hostAccess a).1.bus = s.bus ∧ (s.hostAccess a).1.input = s.input ∧ (s.hostAccess a).1.chip = s.chip := by
  rw [hostAccess_frame ha]
  exact ⟨rfl, rfl, rfl⟩

/-- Settles O20: HOST's access leaves the request and XPORT's answer, and without BACK the handshake changes nothing. -/
theorem requestStableUntilAck : Obligations.RequestStableUntilAck := by
  unfold Obligations.RequestStableUntilAck
  intro s t hr hback hbusy hrun hb hstep
  have ha := hostAccess_busy hbusy s.input.host
  obtain ⟨hbus, hinput, hchip⟩ := hostAccess_bus ha
  obtain ⟨hseq, -⟩ := hostAccess_seq ha
  rcases step_next hr hstep with ⟨_, hacc, -⟩ | ⟨-, hidle, -⟩ | ⟨-, i, p, v, hp, -, hv, rfl⟩
  · simp [ha] at hacc
  · exact (hrun hidle).elim
  · rw [exec_breq i (hseq.trans hp) (by rw [hbus, hb]), State.busCycle, if_neg (by simp [hinput, hback])] at hv
    cases hv
    exact ⟨hbus, hseq, hchip⟩

/-! ## READY and BUSY -/

theorem GoesOn.keeps_ready (h : GoesOn i s u) (hr : s.status.ready = true) : u.status.ready = true := by
  rcases h.eq with rfl | ⟨-, -, rfl⟩
  · exact hr
  · rfl

theorem Move.keeps_ready (h : Move i s t) (hr : s.status.ready = true) : t.status.ready = true := by
  cases h with
  | freqMove _ _ _ => rw [State.freqMove_frame]; exact hr
  | presetWrite _ hu => exact hu.keeps_ready hr
  | freqCall _ _ hu => exact hu.keeps_ready hr
  | channelWrite _ _ _ _ _ _ hu => exact hu.keeps_ready hr
  | complete _ _ hu hv => rw [hv.frame]; exact hu.keeps_ready hr
  | echoStart _ _ => rw [State.echoStart_frame]; exact hr
  | echoCycle _ _ => rw [State.echoCycle_frame]; exact hr
  | sampleCycle _ _ => rw [State.sampleCycle_frame]; exact hr
  | _ => exact hr

@[simp] theorem State.busCycle_status (s : State) : s.busCycle.status = s.status := by
  rcases busCycle_cases s with ⟨-, h⟩ | ⟨-, h⟩ <;> rw [h]
  rfl

/-- Settles O58: HOST and the handshake leave READY, and no move clears it. -/
theorem readyIsOneWay : Obligations.ReadyIsOneWay := by
  unfold Obligations.ReadyIsOneWay
  intro s t hr hready hstep
  rcases step_next hr hstep with ⟨w, -, -, rfl⟩ | ⟨ha, -, rfl⟩ | ⟨ha, i, p, v, -, -, hv, rfl⟩
  · exact hready
  · rw [hostAccess_frame ha]
    exact hready
  · have hhost : (s.hostAccess s.input.host).1.status.ready = true := by
      rw [hostAccess_frame ha]
      exact hready
    rcases exec_next hv with ⟨_, -, -, rfl⟩ | ⟨_, -, -, -, hm⟩
    · simpa using hhost
    · exact hm.keeps_ready hhost

/-- BUSY falls in SEQ's cycle only by `complete`. -/
theorem exec_busy_falls (h : exec i s = .next t) (hb : s.status.busy = true) (hb' : t.status.busy = false) :
    t.status.done = true ∧ t.seq = .idle := by
  rcases exec_next h with ⟨_, -, -, rfl⟩ | ⟨_, -, -, -, hm⟩
  · simp [hb] at hb'
  · rcases hm.completes_or_runs with ⟨hseq, -, hdone⟩ | ⟨-, hbusy, -⟩
    · exact ⟨hdone, hseq⟩
    · simp [hbusy, hb] at hb'

/-- Settles O59: neither HOST nor an acceptance clears BUSY, and SEQ does only with `complete`. -/
theorem busyFallsOnlyAtCompletion : Obligations.BusyFallsOnlyAtCompletion := by
  unfold Obligations.BusyFallsOnlyAtCompletion
  intro s t hr hb hstep hb'
  rcases step_next hr hstep with ⟨w, -, -, rfl⟩ | ⟨ha, -, rfl⟩ | ⟨ha, i, p, v, -, -, hv, rfl⟩
  · cases hb'
  · rw [hostAccess_frame ha] at hb'
    simp [hb] at hb'
  · have hhost : (s.hostAccess s.input.host).1.status.busy = true := by
      rw [hostAccess_frame ha]
      exact hb
    exact exec_busy_falls (t := v) hv hhost hb'

/-- Settles O13: SEQ's cycle comes after the write-1-to-clear, on the cleared STATUS, and a completion sets DONE. -/
theorem setBeatsClear : Obligations.SetBeatsClear := by
  unfold Obligations.SetBeatsClear
  rintro s t off v ⟨hr, hhost⟩ hoff hstep
  refine ⟨fun hb hb' => (busyFallsOnlyAtCompletion s t hr hb hstep hb').1, fun i u _ hrun hl hu => ?_⟩
  have hacc := hostAccess_writeStatus s v hoff
  rw [← hhost] at hacc
  cases hseq : s.seq with
  | idle => exact (hrun hseq).elim
  | run p =>
    rw [step_running hr (by rw [hacc]) hseq hl, hacc, hu] at hstep
    cases hstep
    rfl

/-! ## The idle block -/

/-- What no HOST access changes, an acceptance included. -/
theorem hostAccess_keeps (s : State) (a : Option HostAccess) :
    (s.hostAccess a).1.result0 = s.result0 ∧ (s.hostAccess a).1.result1 = s.result1 ∧
      (s.hostAccess a).1.lastPsc = s.lastPsc ∧ (s.hostAccess a).1.trigOut = s.trigOut ∧ (s.hostAccess a).1.bus = s.bus ∧
      (s.hostAccess a).1.chip = s.chip ∧ (s.hostAccess a).1.unitP = s.unitP ∧ (s.hostAccess a).1.unitU = s.unitU ∧
      (s.hostAccess a).1.unitF = s.unitF ∧ (s.hostAccess a).1.status.ready = s.status.ready := by
  cases ha : (s.hostAccess a).2 with
  | true =>
    obtain ⟨w, -, hw⟩ := hostAccess_accepted ha
    rw [hw]
    exact ⟨rfl, rfl, rfl, rfl, rfl, rfl, rfl, rfl, rfl, rfl⟩
  | false =>
    rw [hostAccess_frame ha]
    exact ⟨rfl, rfl, rfl, rfl, rfl, rfl, rfl, rfl, rfl, rfl⟩

/-- Settles O60: an idle block's cycle is the HOST access. -/
theorem idleBlockKeepsResults : Obligations.IdleBlockKeepsResults := by
  unfold Obligations.IdleBlockKeepsResults
  intro s t hr hidle hstep
  cases hstep.symm.trans (step_idle hr hidle)
  exact hostAccess_keeps s s.input.host

end Sys2Proof.Machine
end
section
/-! PROOFS. The frames of the commands in every SEQ cycle of theirs. -/

namespace Sys2Proof.Machine

variable {i : Instr} {s t u v : State} {p : SeqPos}

/-! ## The commands that do not call ensureReady -/

theorem GoesOn.eq_of_noInit (h : GoesOn i s u) (hi : usesInit i = false) : u = s := by
  cases h with
  | start _ _ => rfl
  | own hi' _ _ => simp [hi] at hi'
  | returns hi' _ => simp [hi] at hi'

/-- A move of a command that does not call ensureReady leaves READY and unit P. -/
theorem Move.noInit (h : Move i s t) (hi : usesInit i = false) :
    t.status.ready = s.status.ready ∧ t.unitP = s.unitP := by
  have no (hi' : usesInit i = true) : False := by simp [hi] at hi'
  cases h with
  | initIssue hi' _ _ => exact (no hi').elim
  | initCall hi' _ => exact (no hi').elim
  | freqMove hi' _ _ => exact (no (usesInit_of_freq hi')).elim
  | presetWrite hi' _ => exact (no (usesInit_of_isPreset hi')).elim
  | freqCall _ hi' _ => exact (no (usesInit_of_setsFreq hi').1).elim
  | channelWrite _ _ _ hi' _ _ _ => exact (no (usesInit_of_writesChannel hi')).elim
  | complete _ _ hu hv => rw [hv.frame, hu.eq_of_noInit hi]; exact ⟨rfl, rfl⟩
  | echoStart _ _ => rw [State.echoStart_frame]; exact ⟨rfl, rfl⟩
  | echoCycle _ _ => rw [State.echoCycle_frame]; exact ⟨rfl, rfl⟩
  | sampleCycle _ _ => rw [State.sampleCycle_frame]; exact ⟨rfl, rfl⟩
  | _ => exact ⟨rfl, rfl⟩

/-- Settles O36: with no request outstanding the cycle is a move, and only commands that call ensureReady issue requests or
write READY and unit P. -/
theorem commandsWithoutInitIssueNothing : Obligations.CommandsWithoutInitIssueNothing := by
  unfold Obligations.CommandsWithoutInitIssueNothing
  intro i s t hi hb h
  rcases exec_next h with ⟨_, -, hb', -⟩ | ⟨_, -, -, -, hm⟩
  · simp [hb] at hb'
  · obtain ⟨hready, hunitP⟩ := hm.noInit hi
    obtain ⟨hchip, hlast⟩ := hm.record
    refine ⟨?_, hready, hunitP, hlast, hchip⟩
    rcases hm.bus with hbus | ⟨hi', -⟩
    · exact hbus
    · simp [hi] at hi'

/-! ## The commands that complete in their first cycle -/

section Pure

variable (sel : Byte) (hp : s.resumesAt .start)
include hp

theorem exec_nop_start : exec (.nop sel) s = .next s.complete := running_resumes hp

theorem exec_calcPrescale_start (h : s.snap.a0 ≠ 0) : exec (.calcPrescale sel) s = .next s.calcPrescaleDone :=
  (running_resumes hp).trans (if_neg h)

theorem exec_clampTick_start : exec (.clampTick sel) s = .next s.clampTickDone := running_resumes hp

theorem exec_mapLinear_start (h : s.snap.a1 ≠ s.snap.a2) : exec (.mapLinear sel) s = .next s.mapLinearDone :=
  (running_resumes hp).trans (if_neg h)

theorem exec_mapMotor_start : exec (.mapMotor sel) s = .next s.mapMotorDone := running_resumes hp

end Pure

/-- Saturation changes a value exactly outside its range (spec/00_scope.md R12). -/
theorem clamp_bne {v lo hi : Int} (h : lo ≤ hi) : (clamp v lo hi != v) = decide (v < lo ∨ hi < v) := by
  rw [Bool.eq_iff_iff, bne_iff_ne, decide_eq_true_iff, clamp]
  omega

/-- Settles O31: each command's lines at its start, with the flags of the saturations by their ranges. -/
theorem pureCommandsComplete : Obligations.PureCommandsComplete := by
  unfold Obligations.PureCommandsComplete
  intro s sel hp
  refine ⟨exec_nop_start sel hp, fun h => exec_calcPrescale_start sel hp h, ?_, fun h => ?_, ?_⟩
  · rw [exec_clampTick_start sel hp]
    have hspan : (0 : Int) ≤ tickMax := by decide
    simp only [State.clampTickDone, clampTick, clamp_bne (v := s32 s.snap.a0) hspan]
    rfl
  · rw [exec_mapLinear_start sel hp h]
    have hspan : (-2147483648 : Int) ≤ 2147483647 := by decide
    simp only [State.mapLinearDone, sat32, clamp_bne (v := mapLinearOf s.snap) hspan]
    rfl
  · rw [exec_mapMotor_start sel hp]
    have hspan : -motorSat ≤ motorSat := by decide
    simp only [State.mapMotorDone, mapMotorSpeed, clamp_bne (v := motorScale * s32 s.snap.a0) hspan]
    rfl

/-- Settles O34: a pure command's next state is that of its lines at its start, which write what the command names. -/
theorem pureCommandsFrame : Obligations.PureCommandsFrame := by
  unfold Obligations.PureCommandsFrame
  intro s t i hi hb h
  rcases exec_next h with ⟨_, -, hb', -⟩ | ⟨p, hp, hd, hpos, -⟩
  · simp [hb] at hb'
  · have hstart : p = .start := by
      by_contra hne
      simp [hasPosition_of_isPure hi _ hne] at hpos
    subst hstart
    cases i with
    | nop sel =>
      cases h.symm.trans (exec_nop_start sel hp)
      simp
    | calcPrescale sel =>
      cases h.symm.trans (exec_calcPrescale_start sel hp (by simpa [divZeroOperands] using hd))
      simp [State.calcPrescaleDone, Instr.opcode]
    | clampTick sel =>
      cases h.symm.trans (exec_clampTick_start sel hp)
      simp [State.clampTickDone, Instr.opcode]
    | mapLinear sel =>
      cases h.symm.trans (exec_mapLinear_start sel hp (by simpa [divZeroOperands] using hd))
      simp [State.mapLinearDone, Instr.opcode]
    | mapMotor sel =>
      cases h.symm.trans (exec_mapMotor_start sel hp)
      simp [State.mapMotorDone, Instr.opcode]
    | _ => cases hi

/-! ## The handshake's frame -/

/-- An external byte changes in the handshake only if it acknowledges a write that covers it; LAST_PSC only if it acknowledges
the PRESCALE write (R45, R41). -/
theorem busCycle_record (hb : s.bus.breq = true) :
    (∀ a, ¬(s.bus.breq = true ∧ s.input.back = true ∧ s.bus.reg.toNat ≤ a ∧ a < s.bus.reg.toNat + s.bus.kind.bytes) →
      Memory.read s.busCycle.chip a = Memory.read s.chip a) ∧
    (¬(s.bus.breq = true ∧ s.input.back = true ∧ s.seq = .run (.freq .prescale)) → s.busCycle.lastPsc = s.lastPsc) := by
  rcases busCycle_cases s with ⟨hback, h⟩ | ⟨-, h⟩ <;> rw [h]
  · refine ⟨fun a ha => ?_, fun hp => ?_⟩
    · rw [State.busAck_chip, Memory.read_writeBytes, if_neg fun hr => ha ⟨hb, hback, hr⟩]
    · rw [State.busAck_lastPsc, if_neg fun hs => hp ⟨hb, hback, hs⟩]
  · exact ⟨fun _ _ => rfl, fun _ => rfl⟩

/-- What the handshake leaves, whatever it acknowledges. -/
theorem busCycle_keeps (s : State) :
    s.busCycle.trigOut = s.trigOut ∧ s.busCycle.unitU = s.unitU ∧ s.busCycle.unitF = s.unitF ∧
      s.busCycle.result0 = s.result0 ∧ s.busCycle.result1 = s.result1 ∧ s.busCycle.seq = s.seq := by
  rcases busCycle_cases s with ⟨-, h⟩ | ⟨-, h⟩ <;> rw [h] <;> exact ⟨rfl, rfl, rfl, rfl, rfl, rfl⟩

/-! ## The chip commands -/

@[simp] theorem State.raisePscOor_false (s : State) : s.raisePscOor false = s := by
  simp [State.raisePscOor]

/-- A call of setFreqSeq whose prescale is in range leaves PSC_OOR (R133, R134). -/
theorem freqStart_of_inRange {A : Nat} (h : (calcPrescale A).oor = false) (s : State) :
    s.freqStart A = State.busRead1 regMode1 (.freq .read) { s with unitP.pscb := (calcPrescale A).byte } := by
  rw [State.freqStart, h, State.raisePscOor_false]

/-- ensureReady's own frequency is in range (R131). -/
theorem initHz_inRange : (calcPrescale initHz).oor = false := by decide

/-- What a move of a chip command never writes, and when it writes the results and PSC_OOR. -/
structure ChipFrame (i : Instr) (s t : State) : Prop where
  trigOut : t.trigOut = s.trigOut
  unitU : t.unitU = s.unitU
  unitF : t.unitF = s.unitF
  noEcho : t.status.noEcho = s.status.noEcho
  ovf : t.status.ovf = s.status.ovf
  results : t.seq ≠ .idle → t.result0 = s.result0 ∧ t.result1 = s.result1
  result0 : (∃ sel, i = .init sel) → t.result0 = s.result0
  result1 : setsFreq i = false → (∀ ch, i ≠ .setChannel ch) → t.result1 = s.result1
  pscOor : setsFreq i = false → t.status.pscOor = s.status.pscOor

/-- A change of the port, the position, unit P, READY, CLAMPED and CH_IGN has the frame of every chip command. -/
theorem ChipFrame.of_eq
    (h : t =
      { s with
        bus := t.bus, seq := t.seq, unitP := t.unitP
        status :=
          { s.status with ready := t.status.ready, clamped := t.status.clamped, chIgn := t.status.chIgn } }) :
    ChipFrame i s t := by
  rw [h]
  exact ⟨rfl, rfl, rfl, rfl, rfl, fun _ => ⟨rfl, rfl⟩, fun _ => rfl, fun _ _ => rfl, fun _ => rfl⟩

/-- The pure lines before `complete` keep the frame. -/
theorem ChipFrame.complete (h : ChipFrame i s u) (hv : PureLines i u v) (hpure : isPure i = false) :
    ChipFrame i s v.complete where
  trigOut := (congrArg State.trigOut hv.frame).trans h.trigOut
  unitU := (congrArg State.unitU hv.frame).trans h.unitU
  unitF := (congrArg State.unitF hv.frame).trans h.unitF
  noEcho := (congrArg (fun w => w.status.noEcho) hv.frame).trans h.noEcho
  ovf := (hv.flags hpure).2.trans h.ovf
  results hne := (hne rfl).elim
  result0 hi := (hv.result0 hi).trans (h.result0 hi)
  result1 hi hch := (hv.result1 hpure hi hch).trans (h.result1 hi hch)
  pscOor hi := (hv.flags hpure).1.trans (h.pscOor hi)

theorem Move.chipFrame (h : Move i s t) (hpure : isPure i = false) (hultra : isUltrasonic i = false)
    (hdetect : isFreqDetect i = false) : ChipFrame i s t := by
  cases h with
  | initIssue _ _ _ => exact .of_eq rfl
  | initCall _ _ => exact .of_eq (by rw [freqStart_of_inRange initHz_inRange]; rfl)
  | freqMove _ _ _ => exact .of_eq (by rw [State.freqMove_frame])
  | presetWrite _ hu => rcases hu.eq with rfl | ⟨-, -, rfl⟩ <;> exact .of_eq rfl
  | channelWrite _ _ _ _ _ _ hu => rcases hu.eq with rfl | ⟨-, -, rfl⟩ <;> exact .of_eq rfl
  | freqCall _ hi hu =>
    have hinit : ¬∃ sel, i = .init sel := by rintro ⟨sel, rfl⟩; cases hi
    rcases hu.eq with rfl | ⟨-, -, rfl⟩ <;>
      exact ⟨rfl, rfl, rfl, rfl, rfl, fun _ => ⟨rfl, rfl⟩, fun h => (hinit h).elim, fun h => by simp [hi] at h,
        fun h => by simp [hi] at h⟩
  | complete _ _ hu hv =>
    exact (show ChipFrame i s _ by rcases hu.eq with rfl | ⟨-, -, rfl⟩ <;> exact .of_eq rfl).complete hv hpure
  | loopStart _ hi _ | sampleCycle hi _ => simp [hdetect] at hi
  | trigStart hi _ | trigLowWait _ hi _ | trigRise hi _ | trigHighWait _ hi _ | trigFall hi _ | echoStart hi _
  | echoCycle hi _ => simp [hultra] at hi

theorem busCycle_chipFrame (s : State) : ChipFrame i s s.busCycle := by
  obtain ⟨htrig, hU, hF, hr0, hr1, -⟩ := busCycle_keeps s
  exact ⟨htrig, hU, hF, by rw [State.busCycle_status], by rw [State.busCycle_status], fun _ => ⟨hr0, hr1⟩, fun _ => hr0,
    fun _ _ => hr1, fun _ => by rw [State.busCycle_status]⟩

/-- Outside the completing cycle BUSY and DONE stay (R130). -/
theorem exec_busy_done (h : exec i s = .next t) (hseq : t.seq ≠ .idle) :
    t.status.done = s.status.done ∧ t.status.busy = s.status.busy := by
  rcases exec_next h with ⟨_, -, -, rfl⟩ | ⟨_, -, -, -, hm⟩
  · rw [State.busCycle_status]
    exact ⟨rfl, rfl⟩
  · rcases hm.completes_or_runs with ⟨hidle, -, -⟩ | ⟨-, hb, hd⟩
    · exact (hseq hidle).elim
    · exact ⟨hd, hb⟩

/-- In every SEQ cycle an external byte changes only by an acknowledged write that covers it, and LAST_PSC only by the
acknowledged PRESCALE write. -/
theorem exec_record (h : exec i s = .next t) :
    (∀ a, ¬(s.bus.breq = true ∧ s.input.back = true ∧ s.bus.reg.toNat ≤ a ∧ a < s.bus.reg.toNat + s.bus.kind.bytes) →
      Memory.read t.chip a = Memory.read s.chip a) ∧
    (¬(s.bus.breq = true ∧ s.input.back = true ∧ s.seq = .run (.freq .prescale)) → t.lastPsc = s.lastPsc) := by
  rcases exec_next h with ⟨_, -, hb, rfl⟩ | ⟨_, -, -, -, hm⟩
  · exact busCycle_record hb
  · obtain ⟨hchip, hlast⟩ := hm.record
    rw [hchip]
    exact ⟨fun _ _ => rfl, fun _ => hlast⟩

/-- A chip command is neither a pure command nor ULTRASONIC. -/
theorem not_pure_of_chip (hi : usesInit i = true ∨ ∃ ch, i = .setChannel ch) :
    isPure i = false ∧ isUltrasonic i = false := by
  rcases hi with hi | ⟨ch, rfl⟩
  · cases i <;> simp_all [usesInit, isPure, isUltrasonic]
  · exact ⟨rfl, rfl⟩

/-- Settles O47: ARG, the latch, the snapshot, ERR and the model's own inputs are in the frame of every command, the record
and LAST_PSC change only in the handshake, and the rest is the frame of the chip commands' moves. -/
theorem chipCommandsFrame : Obligations.ChipCommandsFrame := by
  unfold Obligations.ChipCommandsFrame
  intro i s t hi hdetect h
  obtain ⟨hpure, hultra⟩ := not_pure_of_chip hi
  have hseq := exec_keepsFrame i s t h
  obtain ⟨hchip, hlast⟩ := exec_record h
  have hf : ChipFrame i s t := by
    rcases exec_next h with ⟨_, -, -, rfl⟩ | ⟨_, -, -, -, hm⟩
    · exact busCycle_chipFrame s
    · exact hm.chipFrame hpure hultra hdetect
  exact ⟨congrArg SeqFrame.arg hseq, congrArg SeqFrame.snap hseq, congrArg SeqFrame.opL hseq, congrArg SeqFrame.selL hseq,
    hf.trigOut, hf.unitU, hf.unitF, congrArg SeqFrame.rdata hseq, congrArg SeqFrame.masks hseq,
    congrArg SeqFrame.env hseq, congrArg SeqFrame.cycle hseq, congrArg SeqFrame.err hseq, congrArg SeqFrame.errcode hseq,
    hf.noEcho, hf.ovf, hchip, hlast,
    fun hne => ⟨(hf.results hne).1, (hf.results hne).2, exec_busy_done h hne⟩, hf.result0, hf.result1, hf.pscOor⟩

/-! ## The sensor commands -/

/-- What a move of ULTRASONIC never writes. -/
theorem Move.ultrasonicFrame (h : Move i s t) (hi : isUltrasonic i = true) :
    t.unitF = s.unitF ∧ t.status.ready = s.status.ready ∧ t.status.chIgn = s.status.chIgn ∧ t.status.ovf = s.status.ovf ∧
      t.status.pscOor = s.status.pscOor ∧ t.status.clamped = s.status.clamped := by
  obtain ⟨sel, rfl⟩ : ∃ sel, i = .ultrasonic sel := by cases i <;> simp_all [isUltrasonic]
  cases h with
  | trigStart _ _ | trigLowWait _ _ _ | trigRise _ _ | trigHighWait _ _ _ | trigFall _ _ =>
    exact ⟨rfl, rfl, rfl, rfl, rfl, rfl⟩
  | echoStart _ _ => rw [State.echoStart_frame]; exact ⟨rfl, rfl, rfl, rfl, rfl, rfl⟩
  | echoCycle _ _ => rw [State.echoCycle_frame]; exact ⟨rfl, rfl, rfl, rfl, rfl, rfl⟩
  | initIssue h _ _ | initCall h _ | presetWrite h _ | freqCall _ h _ | complete h _ _ _ | loopStart _ h _
  | sampleCycle h _ => cases h
  | freqMove h _ _ => cases usesInit_of_freq h
  | channelWrite _ _ _ h _ _ _ => cases usesInit_of_writesChannel h

/-- What a move of FREQ_DETECT never writes: its drive clamps nothing (R240). -/
theorem Move.freqDetectFrame (h : Move i s t) (hi : isFreqDetect i = true) :
    t.unitU = s.unitU ∧ t.trigOut = s.trigOut ∧ t.status.noEcho = s.status.noEcho ∧ t.status.ovf = s.status.ovf ∧
      t.status.pscOor = s.status.pscOor ∧ t.status.clamped = s.status.clamped := by
  obtain ⟨ch, rfl⟩ : ∃ ch, i = .freqDetect ch := by cases i <;> simp_all [isFreqDetect]
  cases h with
  | initIssue _ _ _ | loopStart _ _ _ => exact ⟨rfl, rfl, rfl, rfl, rfl, rfl⟩
  | initCall _ _ => rw [freqStart_of_inRange initHz_inRange]; exact ⟨rfl, rfl, rfl, rfl, rfl, rfl⟩
  | freqMove _ _ _ => rw [State.freqMove_frame]; exact ⟨rfl, rfl, rfl, rfl, rfl, rfl⟩
  | sampleCycle _ _ => rw [State.sampleCycle_frame]; exact ⟨rfl, rfl, rfl, rfl, rfl, rfl⟩
  | channelWrite _ _ c _ _ hc hu =>
    cases hc rfl
    rw [State.raiseClamped_false]
    rcases hu.eq with rfl | ⟨-, -, rfl⟩ <;> exact ⟨rfl, rfl, rfl, rfl, rfl, rfl⟩
  | presetWrite h _ | freqCall _ h _ | complete _ h _ _ | trigStart h _ | trigLowWait _ h _ | trigRise h _
  | trigHighWait _ h _ | trigFall h _ | echoStart h _ | echoCycle h _ => cases h

/-- Settles O54: the frame of every command, with what each sensor command's moves leave besides. -/
theorem sensorCommandsFrame : Obligations.SensorCommandsFrame := by
  unfold Obligations.SensorCommandsFrame
  intro s t i hi h
  have hseq := exec_keepsFrame i s t h
  obtain ⟨hchip, -⟩ := exec_record h
  have hultra (hi : isUltrasonic i = true) :
      t.unitF = s.unitF ∧ t.status.ready = s.status.ready ∧ t.status.chIgn = s.status.chIgn ∧ t.status.ovf = s.status.ovf ∧
        t.status.pscOor = s.status.pscOor ∧ t.status.clamped = s.status.clamped := by
    rcases exec_next h with ⟨_, -, -, rfl⟩ | ⟨_, -, -, -, hm⟩
    · rw [State.busCycle_status]
      exact ⟨(busCycle_keeps s).2.2.1, rfl, rfl, rfl, rfl, rfl⟩
    · exact hm.ultrasonicFrame hi
  have hdetect (hi : isFreqDetect i = true) :
      t.unitU = s.unitU ∧ t.trigOut = s.trigOut ∧ t.status.noEcho = s.status.noEcho ∧ t.status.ovf = s.status.ovf ∧
        t.status.pscOor = s.status.pscOor ∧ t.status.clamped = s.status.clamped := by
    rcases exec_next h with ⟨_, -, -, rfl⟩ | ⟨_, -, -, -, hm⟩
    · rw [State.busCycle_status]
      exact ⟨(busCycle_keeps s).2.1, (busCycle_keeps s).1, rfl, rfl, rfl, rfl⟩
    · exact hm.freqDetectFrame hi
  have hflags : t.status.ovf = s.status.ovf ∧ t.status.pscOor = s.status.pscOor ∧ t.status.clamped = s.status.clamped := by
    rcases hi with hi | hi
    · exact (hultra hi).2.2.2
    · exact (hdetect hi).2.2.2
  refine ⟨congrArg SeqFrame.arg hseq, congrArg SeqFrame.snap hseq, congrArg SeqFrame.opL hseq, congrArg SeqFrame.selL hseq,
    congrArg SeqFrame.rdata hseq, congrArg SeqFrame.masks hseq, congrArg SeqFrame.env hseq, congrArg SeqFrame.cycle hseq,
    congrArg SeqFrame.err hseq, congrArg SeqFrame.errcode hseq, hflags.1, hflags.2.1, hflags.2.2, fun hi => ?_, fun hi => ?_⟩
  · obtain ⟨hF, hready, hch, -⟩ := hultra hi
    have huses : usesInit i = false := by cases i <;> simp_all [isUltrasonic, usesInit]
    refine ⟨hF, hready, hch, fun hb => ?_⟩
    obtain ⟨hbus, -, hP, hlast, hrec⟩ := commandsWithoutInitIssueNothing i s t huses hb h
    exact ⟨hP, hbus, hlast, fun a => by rw [hrec]⟩
  · obtain ⟨hU, htrig, hno, -⟩ := hdetect hi
    exact ⟨hU, htrig, hno, hchip⟩

end Sys2Proof.Machine
end

section
/-! PROOFS. The whole next state of SEQ's cycles: ensureReady and setFreqSeq (spec/40_pwm_controller.md R131, R133), and the
commands' own positions. -/

namespace Sys2Proof.Machine

variable {i : Instr} {s t u v : State} {p : SeqPos}

/-! ## ensureReady and setFreqSeq -/

theorem execSetFreq_eq (h : s.snap.a0 ≠ 0) :
    execSetFreq s = running s fun p =>
      chipCommand p s (fun t => .next (t.freqStart (hzA t.snap.a0))) fun q =>
        match q with
        | .freq f => freqResume f s (fun t => .next (t.setFreqDone (hzA t.snap.a0)))
        | _ => .fault .offPseudocode := by
  simp only [execSetFreq, h, if_false] <;> rfl

theorem execSetChannel_valid {ch : Int} (h : channelValid ch = true) :
    execSetChannel ch s = running s fun p =>
      chipCommand p s (setChannelBody ch) fun q =>
        match q with
        | .chanFirst => .next s.setChannelDone
        | _ => .fault .offPseudocode := by
  simp only [execSetChannel, h, if_true] <;> rfl

/-- FREQ_DETECT on a valid channel, with its loop as a position of its own. -/
theorem execFreqDetect_valid {ch : Int} (h : channelValid ch = true) :
    execFreqDetect ch s = running s fun p =>
      chipCommand p s (freqDetectBody ch) fun q =>
        match q with
        | .chanFirst => .next s.freqLoopStart
        | .sample => .next s.sampleCycle
        | _ => .fault .offPseudocode := by
  unfold execFreqDetect
  congr 1
  funext p
  cases p <;> simp only [h, if_true] <;> rfl

/-- A command that calls ensureReady begins with it. -/
theorem exec_eq_chipCommand (hi : usesInit i = true) (hd : divZeroOperands i s.snap = false) :
    ∃ body own, exec i s = running s fun p => chipCommand p s body own := by
  cases i with
  | setFreq sel => exact ⟨_, _, execSetFreq_eq (by simpa [divZeroOperands] using hd)⟩
  | setChannel ch => exact ⟨_, _, execSetChannel_valid hi⟩
  | freqDetect ch => exact ⟨_, _, execFreqDetect_valid hi⟩
  | init _ | servo _ | servoRange _ | motor _ | setFreqPreset _ => exact ⟨_, _, rfl⟩
  | nop _ | calcPrescale _ | clampTick _ | mapLinear _ | mapMotor _ | ultrasonic _ => cases hi

/-- Settles O35: READY = 0 at the start issues ensureReady's first request, and after it setFreqSeq is called with 50 Hz. -/
theorem ensureReadyRunsFirst : Obligations.EnsureReadyRunsFirst := by
  unfold Obligations.EnsureReadyRunsFirst
  intro i s hi hd
  obtain ⟨body, own, h⟩ := exec_eq_chipCommand hi hd
  refine ⟨fun hp hready => ?_, fun hp => ?_⟩
  · rw [h, running_resumes hp, chipCommand, ensureReady, if_neg (by simp [hready])]
    rfl
  · have hbyte : (calcPrescale initHz).byte = 0x79 := by decide
    rw [h, running_resumes hp, chipCommand, freqStart_of_inRange initHz_inRange, hbyte]
    rfl

/-- Inside setFreqSeq, ensureReady's or the command's own, a cycle before the last is setFreqSeq's move (R133). -/
theorem exec_freqMove {f : FreqPos} (h : InFreqSeq i s) (hp : s.resumesAt (.freq f)) (hf : f ≠ .restart) :
    exec i s = .next (s.freqMove f) := by
  obtain ⟨hi, hd⟩ := h
  cases hb : s.unitP.initpend with
  | true =>
    rw [hb] at hi
    obtain ⟨body, own, h⟩ := exec_eq_chipCommand hi hd
    rw [h, running_resumes hp, chipCommand, if_pos hb, freqResume, if_neg hf]
  | false =>
    rw [hb] at hi
    cases i with
    | setFreq sel =>
      have ha0 : s.snap.a0 ≠ 0 := by simpa [divZeroOperands] using hd
      simp only [exec, execSetFreq, running_resumes hp, ha0, if_false, chipCommand, hb, freqResume, hf, Bool.false_eq_true]
    | setFreqPreset preset =>
      simp only [exec, execSetFreqPreset, running_resumes hp, chipCommand, hb, freqResume, hf, Bool.false_eq_true, if_false]
    | _ => cases hi

/-- Settles O37: the five moves of setFreqSeq before its return, the settle wait by its count. -/
theorem frequencySequenceOrder : Obligations.FrequencySequenceOrder := by
  unfold Obligations.FrequencySequenceOrder
  intro i s h
  refine ⟨fun hp => exec_freqMove h hp nofun, fun hp => exec_freqMove h hp nofun, fun hp => exec_freqMove h hp nofun,
    fun hp => exec_freqMove h hp nofun, fun hp hgt => ?_, fun hp hle => ?_⟩
  · rw [exec_freqMove h hp nofun, State.freqMove, State.settleCycle, if_neg (by omega)]
  · rw [exec_freqMove h hp nofun, State.freqMove, State.settleCycle, if_pos hle]
    rfl

/-- When ensureReady returns, the command's body goes on in the same cycle (R131). -/
theorem running_returns {body : State → Result} {own : SeqPos → Result} (h : ReturnsFromEnsureReady s t) :
    (running s fun p => chipCommand p s body own) = body t := by
  rcases h with ⟨hp, hready, rfl⟩ | ⟨hp, hb, rfl⟩
  · rw [running_resumes hp, chipCommand, ensureReady, if_pos hready]
  · rw [running_resumes hp, chipCommand, if_pos hb, freqResume, if_pos rfl]
    rfl

/-- After the restart write of the command's own setFreqSeq its own lines follow (R143, R206). -/
theorem running_restart {body : State → Result} {own : SeqPos → Result} (hp : s.resumesAt (.freq .restart))
    (hb : s.unitP.initpend = false) : (running s fun p => chipCommand p s body own) = own (.freq .restart) := by
  rw [running_resumes hp, chipCommand, if_neg (by simp [hb])]

/-- A command's own positions outside setFreqSeq. -/
theorem running_own {body : State → Result} {own : SeqPos → Result} (hp : s.resumesAt p)
    (h : p = .presetMode1 ∨ p = .chanFirst ∨ p = .chanSecond) :
    (running s fun p => chipCommand p s body own) = own p := by
  rw [running_resumes hp]
  rcases h with rfl | rfl | rfl <;> rfl

/-! ## The frequency commands -/

/-- Settles O39: INIT's body is `complete`. -/
theorem initCompletes : Obligations.InitCompletes := by
  unfold Obligations.InitCompletes
  exact fun s t sel h => running_returns h

/-- Settles O40: the call of setFreqSeq in the cycle in which ensureReady returns, and the end after its restart write. -/
theorem setFreqCompletes : Obligations.SetFreqCompletes := by
  unfold Obligations.SetFreqCompletes
  intro s sel h
  refine ⟨fun t ht => ?_, fun hp hb => ?_⟩
  · rw [exec, execSetFreq_eq h, running_returns ht]
    rcases ht with ⟨-, -, rfl⟩ | ⟨-, -, rfl⟩ <;> rfl
  · simp only [exec, execSetFreq_eq h, running_restart hp hb, freqResume, if_true]
    rfl

theorem preset_inRange (preset : Preset) : (calcPrescale (presetHz preset)).oor = false := by
  cases preset <;> decide

/-- Settles O41: MODE1 is reset when ensureReady returns, then setFreqSeq is called with the preset's hz, and the end follows
its restart write. -/
theorem setFreqPresetCompletes : Obligations.SetFreqPresetCompletes := by
  unfold Obligations.SetFreqPresetCompletes
  intro s preset
  refine ⟨preset_inRange preset, fun t ht => running_returns ht, fun hp => ?_, fun hp hb => ?_⟩
  · rw [exec, execSetFreqPreset, running_own hp (.inl rfl), freqStart_of_inRange (preset_inRange preset)]
    rfl
  · simp only [exec, execSetFreqPreset, running_restart hp hb, freqResume, if_true]
    rfl

/-! ## The channel commands -/

/-- Settles O43: an invalid channel is judged before ensureReady; a valid one gets its frame when ensureReady returns. -/
theorem setChannelCompletes : Obligations.SetChannelCompletes := by
  unfold Obligations.SetChannelCompletes
  intro s ch on off changed
  refine ⟨fun hp hch => ?_, fun t h0 h15 ht => ?_, fun h0 h15 hp => ?_⟩
  · have hch := channelValid_eq_false_iff.2 hch
    simp only [exec, execSetChannel, running_resumes hp, hch, Bool.false_eq_true, if_false, setChannelBody,
      emitChannel_invalid hch]
    simp only [State.setChannelDone, State.raiseChIgn, Bool.or_true]
    rfl
  · have hch := channelValid_iff.2 ⟨h0, h15⟩
    rw [exec, execSetChannel_valid hch, running_returns ht, setChannelBody, emitChannel_valid hch]
    rcases ht with ⟨-, -, rfl⟩ | ⟨-, -, rfl⟩ <;> rfl
  · rw [exec, execSetChannel_valid (channelValid_iff.2 ⟨h0, h15⟩), running_own hp (.inr (.inl rfl))]
    rfl

theorem servoCommand_completes (ch off : Int) :
    (∀ t, (ch < 0 ∨ 15 < ch) → ReturnsFromEnsureReady s t →
      servoCommand ch off s = .next
        { t with
          result0 := BitVec.ofInt 32 (clampTick off).1
          seq := .idle, status.busy := false, status.done := true
          status.clamped := t.status.clamped || (clampTick off).2, status.chIgn := true }) ∧
    (∀ t, 0 ≤ ch → ch ≤ 15 → ReturnsFromEnsureReady s t →
      servoCommand ch off s = .next
        { t with
          status.clamped := t.status.clamped || (clampTick off).2
          bus := { breq := true, kind := .write4, reg := channelReg ch, data := frame 0 (clampTick off).1 }
          seq := .run .chanFirst }) ∧
    (0 ≤ ch → ch ≤ 15 → s.resumesAt .chanFirst →
      servoCommand ch off s = .next
        { s with
          result0 := BitVec.ofInt 32 (clampTick off).1
          seq := .idle, status.busy := false, status.done := true }) := by
  refine ⟨fun t hch ht => ?_, fun t h0 h15 ht => ?_, fun h0 h15 hp => ?_⟩
  · rw [servoCommand, running_returns ht, emitChannel_invalid (channelValid_eq_false_iff.2 hch)]
    simp only [State.servoDone, State.raiseChIgn, Bool.or_true]
    rfl
  · rw [servoCommand, running_returns ht, emitChannel_valid (channelValid_iff.2 ⟨h0, h15⟩)]
    rfl
  · rw [servoCommand, running_own hp (.inr (.inl rfl))]
    exact if_pos (channelValid_iff.2 ⟨h0, h15⟩)

/-- Settles O44: both commands are the servo cycles on their mapped off-tick. -/
theorem servoCommandsComplete : Obligations.ServoCommandsComplete := by
  unfold Obligations.ServoCommandsComplete
  rintro s ch i off (⟨rfl, rfl⟩ | ⟨rfl, rfl⟩)
  · exact servoCommand_completes ch _
  · exact servoCommand_completes ch _

theorem clampTick_of_mem {v : Int} (h0 : 0 ≤ v) (h1 : v ≤ 4095) : clampTick v = (v, false) :=
  (clampTickSaturates v).2.2 h0 h1

theorem clampTick_zero : clampTick 0 = (0, false) := rfl

theorem mapMotorSpeed_mem (v : Int) : -4095 ≤ (mapMotorSpeed v).1 ∧ (mapMotorSpeed v).1 ≤ 4095 := by
  simp only [mapMotorSpeed, clamp, motorScale, motorSat]
  omega

/-- MOTOR's channels in the order of its writes, and the magnitude first (R204). -/
theorem motorWrites_eq (port : MotorPort) (m : Int) :
    motorWrites port m =
      ((if 0 ≤ m then (motorMap port).1 else (motorMap port).2, |m|),
        (if 0 ≤ m then (motorMap port).2 else (motorMap port).1, 0)) := by
  unfold motorWrites
  split
  · next h => rw [abs_of_nonneg h]
  · next h => rw [abs_of_neg (by omega)]

/-- Settles O45: the magnitude is a tick, so the two frames clamp nothing and CLAMPED is the saturation's. -/
theorem motorCompletes : Obligations.MotorCompletes := by
  unfold Obligations.MotorCompletes
  intro s port m first second
  have hm : -4095 ≤ m ∧ m ≤ 4095 := mapMotorSpeed_mem _
  have habs : clampTick |m| = (|m|, false) := clampTick_of_mem (abs_nonneg m) (abs_le.2 hm)
  obtain ⟨hfirst, hsecond⟩ := channelValid_motorWrites port m
  rw [motorWrites_eq] at hfirst hsecond
  have hw (u : State) (hu : u.snap = s.snap) :
      motorWrites port (mapMotorSpeed (s32 u.snap.a0)).1 = ((first, |m|), (second, 0)) := by
    rw [hu, motorWrites_eq]
    rfl
  refine ⟨fun t ht => ?_, fun hp => ?_, fun hp => ?_⟩
  · have hsnap : t.snap = s.snap := by rcases ht with ⟨-, -, rfl⟩ | ⟨-, -, rfl⟩ <;> rfl
    rw [exec, execMotor, running_returns ht, motorFirst]
    dsimp only
    rw [hw t hsnap, emitChannel_valid hfirst]
    simp only [habs, clampTick_zero, Bool.or_false, State.raiseClamped_false]
    rcases ht with ⟨-, -, rfl⟩ | ⟨-, -, rfl⟩ <;> rfl
  · rw [exec, execMotor, running_own hp (.inr (.inl rfl)), motorSecond]
    dsimp only
    rw [hw s rfl, emitChannel_valid hsecond]
    simp only [clampTick_zero, Bool.or_false, State.raiseClamped_false]
    rfl
  · rw [exec, execMotor, running_own hp (.inr (.inr rfl))]
    rfl

/-! ## The sensors -/

section Ultrasonic

variable (sel : Byte)

theorem exec_echo (hp : s.resumesAt .echo) : exec (.ultrasonic sel) s = .next s.echoCycle := running_resumes hp

theorem exec_trigFall (hp : s.resumesAt .trigFall) : exec (.ultrasonic sel) s = .next s.echoStart := running_resumes hp

/-- Before the deadline an iteration goes on in the next cycle (R232). -/
theorem echoDeadline_before (h : s.unitU.ut.toNat ≠ echoTimeoutUs) :
    s.echoDeadline = State.goTo .echo { s with unitU.ut := s.unitU.ut + 1 } :=
  if_neg fun h' => h (by rw [h']; rfl)

/-- At the deadline the iteration times out. -/
theorem echoDeadline_at (h : s.unitU.ut.toNat = echoTimeoutUs) :
    s.echoDeadline =
      { s with
        result0 := 0, result1 := 0
        seq := .idle, status.busy := false, status.done := true, status.noEcho := true } := by
  have h' : s.unitU.ut = BitVec.ofNat 16 echoTimeoutUs := BitVec.eq_of_toNat_eq h
  rw [State.echoDeadline, if_pos h']
  simp only [State.raiseNoEcho, Bool.or_true]
  rfl

/-- An iteration that waits for the echo records the rise if it sees it, and then tests the deadline. -/
theorem echoCycle_waitHigh (h : s.unitU.uph = .waitHigh) :
    s.echoCycle =
      State.echoDeadline
        { s with
          unitU := { uph := if s.input.echoIn then .high else .waitHigh, ut := s.unitU.ut,
                     ua := if s.input.echoIn then s.unitU.ut else s.unitU.ua } } := by
  cases he : s.input.echoIn with
  | true => rw [State.echoCycle, if_pos ⟨h, he⟩]; rfl
  | false =>
    rw [State.echoCycle, if_neg (by simp [he]), if_neg (by simp [h])]
    simp only [Bool.false_eq_true, if_false, ← h]

theorem echoCycle_high (h : s.unitU.uph = .high) (he : s.input.echoIn = true) : s.echoCycle = s.echoDeadline := by
  rw [State.echoCycle, if_neg (by simp [h]), if_neg (by simp [he])]

/-- The falling sample completes with the width in microseconds and in centimetres (R233). -/
theorem echoCycle_falling (h : s.unitU.uph = .high) (he : s.input.echoIn = false)
    (hle : s.unitU.ua.toNat ≤ s.unitU.ut.toNat) :
    s.echoCycle =
      { s with
        result0 := BitVec.ofNat 32 ((s.unitU.ut.toNat - s.unitU.ua.toNat) / 58)
        result1 := BitVec.ofNat 32 (s.unitU.ut.toNat - s.unitU.ua.toNat)
        seq := .idle, status.busy := false, status.done := true } := by
  have hw : (s.unitU.ut.toNat : Int) - (s.unitU.ua.toNat : Int) = ((s.unitU.ut.toNat - s.unitU.ua.toNat : Nat) : Int) := by
    omega
  rw [State.echoCycle, if_neg (by simp [he]), if_pos ⟨h, he⟩, hw]
  simp only [State.ultrasonicDone, toWord, distanceCm, ← Int.natCast_ediv, BitVec.ofInt_natCast]
  rfl

/-- captureEcho's first cycle is a waiting iteration on UT = 0 (R232). -/
theorem echoStart_eq (s : State) :
    s.echoStart =
      { s with
        unitU := { uph := if s.input.echoIn then .high else .waitHigh, ut := 1,
                   ua := if s.input.echoIn then 0 else s.unitU.ua }
        seq := .run .echo } := by
  have hut : (0 : BitVec 16).toNat ≠ echoTimeoutUs := by decide
  exact (echoCycle_waitHigh rfl).trans (echoDeadline_before hut)

end Ultrasonic

/-- Settles O48: the trigger's positions by evaluation, and captureEcho's iterations by UPH, ECHO_IN and the deadline. -/
theorem ultrasonicCycles : Obligations.UltrasonicCycles := by
  unfold Obligations.UltrasonicCycles
  intro s sel
  refine ⟨fun hp => running_resumes hp, fun k hp => running_resumes hp, fun hp => running_resumes hp,
    fun k hp => running_resumes hp, fun hp => running_resumes hp, fun hp => ?_, fun hp hph hut => ?_, fun hp hph he hut => ?_,
    fun hp hph he hle => ?_, fun hp hph hut => ?_, fun hp hph he hut => ?_⟩
  · rw [exec_trigFall sel hp, echoStart_eq]
  · rw [exec_echo sel hp, (echoCycle_waitHigh hph).trans (echoDeadline_before hut), State.goTo, ← hp.1]
  · rw [exec_echo sel hp, echoCycle_high hph he, echoDeadline_before hut, State.goTo, ← hp.1]
  · rw [exec_echo sel hp, echoCycle_falling hph he hle]
  · rw [exec_echo sel hp, (echoCycle_waitHigh hph).trans (echoDeadline_at hut)]
  · rw [exec_echo sel hp, echoCycle_high hph he, echoDeadline_at hut]

theorem exec_sample (ch : Int) (hp : s.resumesAt .sample) : exec (.freqDetect ch) s = .next s.sampleCycle :=
  running_resumes hp

/-- FREQ_DETECT's drive of a valid channel clamps nothing: on = 0, off = 4095 (R240). -/
theorem freqDetectBody_valid {ch : Int} (h : channelValid ch = true) :
    freqDetectBody ch s = .next (s.busWrite4 (channelReg ch) 0x0FFF0000 .chanFirst) := by
  have hon : clampTick freqDriveOn = (0, false) := rfl
  have hoff : clampTick freqDriveOff = (4095, false) := rfl
  rw [freqDetectBody, emitChannel_valid h, hon, hoff, Bool.or_false, State.raiseClamped_false]
  rfl

/-- The 1000th cycle takes the sample and tests the window and the end (R240, R245). -/
theorem sampleCycle_at (h : s.unitF.fph.toNat = 999) : s.sampleCycle = s.countSample.afterSample :=
  if_neg (by rw [h]; decide)

theorem afterSample_inside (h0 : s.unitF.fk.toNat % freqWindow ≠ 0) (h1 : s.unitF.fk.toNat < freqIter) :
    s.afterSample = s := by
  rw [State.afterSample, if_neg h0, if_neg (by omega)]

theorem afterSample_window (h0 : s.unitF.fk.toNat % freqWindow = 0) (h1 : s.unitF.fk.toNat < freqIter) :
    s.afterSample = s.windowEnd := by
  rw [State.afterSample, if_pos h0, if_neg (by omega)]

theorem afterSample_end (h0 : s.unitF.fk.toNat % freqWindow = 0) (h1 : freqIter ≤ s.unitF.fk.toNat) :
    s.afterSample = s.windowEnd.complete := by
  rw [State.afterSample, if_pos h0, if_pos h1]

/-- Settles O52: the drive by the channel's validity, and the loop by FPH and FK. -/
theorem freqDetectCycles : Obligations.FreqDetectCycles := by
  unfold Obligations.FreqDetectCycles
  intro s ch
  refine ⟨fun t h0 h15 ht => ?_, fun hch hp => ?_, fun h0 h15 hp => ?_, fun hp hlt => ?_, fun hp hfph => ?_⟩
  · have hch := channelValid_iff.2 ⟨h0, h15⟩
    rw [exec, execFreqDetect_valid hch, running_returns ht, freqDetectBody_valid hch]
    rfl
  · have hch := channelValid_eq_false_iff.2 hch
    rw [exec, execFreqDetect, running_resumes hp]
    dsimp only
    rw [if_neg (by simp [hch]), freqDetectBody_invalid hch]
    simp only [State.raiseChIgn, Bool.or_true]
    rfl
  · rw [exec, execFreqDetect_valid (channelValid_iff.2 ⟨h0, h15⟩), running_own hp (.inr (.inl rfl))]
    rfl
  · rw [exec_sample ch hp]
    exact congrArg _ (if_pos (Nat.succ_lt_succ hlt))
  · intro ec2 corr
    rw [exec_sample ch hp, sampleCycle_at hfph]
    have hsucc (h : s.unitF.fk.toNat < 1999 + 1) : s.countSample.unitF.fk.toNat = s.unitF.fk.toNat + 1 :=
      toNat_succ (by omega)
    refine ⟨fun hlt hne => ?_, fun hfk => ?_, fun hfk => ?_⟩
    · have hk := hsucc (by omega)
      rw [afterSample_inside (by rw [hk, freqWindow]; omega) (by rw [hk, freqIter]; omega)]
      rfl
    · have hk := hsucc (by omega)
      have hfk' : s.unitF.fk + 1 = 1000 := BitVec.eq_of_toNat_eq (by rw [toNat_succ (by omega), hfk]; rfl)
      rw [afterSample_window (by rw [hk, hfk]; rfl) (by rw [hk, hfk]; decide)]
      simp only [State.windowEnd, State.countSample, hfk']
      rfl
    · have hk := hsucc (by omega)
      have hfk' : s.unitF.fk + 1 = 2000 := BitVec.eq_of_toNat_eq (by rw [toNat_succ (by omega), hfk]; rfl)
      rw [afterSample_end (by rw [hk, hfk]; rfl) (by rw [hk, hfk]; decide)]
      simp only [State.windowEnd, State.countSample, hfk']
      rfl

end Sys2Proof.Machine
end

section
/-! PROOFS. Runs of quiet cycles: how they compose, a request to its acknowledgement, and the statements about how long the
commands take (spec/70_reset_and_hazards.md R320). -/

namespace Sys2Proof.Machine

variable {i : Instr} {s t u v : State} {p q : SeqPos} {x : CycleInput} {l r : List CycleInput} {j k n : Nat}

/-! ## Runs -/

theorem Runs.zero (s : State) : Runs 0 s s := rfl

theorem core_run_succ_iff (M : Host.Core) {s t : M.State} :
    M.run (k + 1) s = .next t ↔ ∃ u, M.step s = .next u ∧ M.run k u = .next t := by
  simp only [Host.Core.run]
  cases M.step s with
  | next u => exact ⟨fun h => ⟨u, rfl, h⟩, fun ⟨v, hv, h⟩ => by cases hv; exact h⟩
  | fault r => simp
  | refused r => simp

theorem runs_succ_iff : Runs (k + 1) s t ↔ ∃ u, step s = .next u ∧ Runs k u t := core_run_succ_iff Sys2Proof.core

theorem Runs.head (h : step s = .next u) (hr : Runs k u t) : Runs (k + 1) s t := runs_succ_iff.2 ⟨u, h, hr⟩

theorem Runs.one (h : step s = .next t) : Runs 1 s t := .head h (.zero t)

theorem Runs.add (h : Runs j s u) (h' : Runs k u t) : Runs (j + k) s t := by
  induction j generalizing s with
  | zero =>
    cases h
    rwa [Nat.zero_add]
  | succ j ih =>
    obtain ⟨v, hv, hr⟩ := runs_succ_iff.1 h
    rw [Nat.succ_add]
    exact .head hv (ih hr)

theorem Runs.snoc (h : Runs k s u) (h' : step u = .next t) : Runs (k + 1) s t := h.add (.one h')

/-- States with the same next state have the same runs. -/
theorem Runs.of_step_eq (h : step s = step u) (hr : Runs (k + 1) u t) : Runs (k + 1) s t := by
  obtain ⟨v, hv, hr⟩ := runs_succ_iff.1 hr
  exact .head (h.trans hv) hr

/-! ## A quiet cycle of a running command -/

theorem State.input_cons (h : s.env = x :: r) : s.input = x := by
  rw [State.input, h]

/-- What the HOST access of a quiet cycle leaves: no read data. -/
def State.heard (s : State) : State := { s with rdata := none }

@[simp] theorem State.heard_input (s : State) : s.heard.input = s.input := rfl

/-- A quiet cycle of a running command is SEQ's cycle; the HOST access leaves only the empty read data. -/
theorem step_quiet (hq : Quiet s.input) (hp : s.seq = .run p) (hl : s.latched = .ok i)
    (he : exec i s.heard = .next u) : step s = .next u.tick := by
  obtain ⟨hrst, hhost⟩ := hq
  have ha : s.hostAccess s.input.host = (s.heard, false) := by rw [hhost]; rfl
  rw [step_running hrst (by rw [ha]) hp hl, ha, he]
  rfl

theorem latched_of_exec (h : exec i s = .next t) : t.latched = s.latched := latched_of_seqFrame (exec_keepsFrame i s t h)

theorem env_of_exec (h : exec i s = .next t) : t.env = s.env := congrArg SeqFrame.env (exec_keepsFrame i s t h)

/-- A predicate that every quiet cycle of a running command carries on holds after each of them. -/
theorem runs_quiet {P : Nat → State → Prop} {l : List CycleInput} (henv : s.env = l ++ r) (hq : ∀ x ∈ l, Quiet x)
    (hl : s.latched = .ok i) (h0 : P 0 s)
    (hstep : ∀ k u, P k u → (hk : k < l.length) → u.input = l[k] →
      ∃ p v, u.seq = .run p ∧ exec i u.heard = .next v ∧ P (k + 1) v.tick) :
    ∀ k ≤ l.length, ∃ t, Runs k s t ∧ P k t ∧ t.latched = .ok i ∧ t.env = l.drop k ++ r := by
  intro k hk
  induction k with
  | zero => exact ⟨s, .zero s, h0, hl, henv⟩
  | succ k ih =>
    obtain ⟨u, hrun, hP, hlu, hu⟩ := ih (by omega)
    rw [List.drop_eq_getElem_cons hk, List.cons_append] at hu
    have hin := State.input_cons hu
    obtain ⟨p, v, hp, he, hv⟩ := hstep k u hP hk hin
    refine ⟨v.tick, hrun.snoc (step_quiet (hin ▸ hq _ (List.getElem_mem hk)) hp hlu he), hv, ?_, ?_⟩
    · exact (latched_of_exec he).trans hlu
    · change v.env.tail = _
      rw [env_of_exec he]
      change u.env.tail = _
      rw [hu]
      rfl

/-! ## Waiting for an acknowledgement -/

/-- A cycle without BACK leaves a waiting command as it is. -/
theorem exec_waits (hp : s.seq = .run p) (hb : s.bus.breq = true) (h : s.input.back = false) : exec i s = .next s := by
  rw [exec_breq i hp hb, State.busCycle, if_neg (by simp [h])]

/-- Settles O21: every cycle without BACK keeps STATUS, the port and the position. -/
theorem unacknowledgedRequestBlocks : Obligations.UnacknowledgedRequestBlocks := by
  unfold Obligations.UnacknowledgedRequestBlocks
  intro k s i p hp hl hb hbusy hk hx
  obtain ⟨t, hrun, ⟨hst, hbus, hseq⟩, -, henv⟩ :=
    runs_quiet (P := fun _ u => u.status = s.status ∧ u.bus = s.bus ∧ u.seq = s.seq) (List.take_append_drop k s.env).symm
      (fun x h => (hx x h).1) hl ⟨rfl, rfl, rfl⟩
      (fun j u ⟨hst, hbus, hseq⟩ hj hin => by
        have hback : u.heard.input.back = false := by
          rw [State.heard_input, hin]
          exact (hx _ (List.getElem_mem hj)).2
        have he := exec_waits (i := i) (s := u.heard) (hseq.trans hp) ((congrArg BusPort.breq hbus).trans hb) hback
        exact ⟨p, _, hseq.trans hp, he, hst, hbus, hseq⟩)
      k (by simp [hk])
  refine ⟨t, hrun, hst, hbus, hseq, ?_⟩
  rw [henv, List.drop_eq_nil_of_le (by simp), List.nil_append]

/-- The state in a later cycle: other inputs to come, and no read data. -/
def State.later (e : List CycleInput) (n : Nat) (s : State) : State := { s with rdata := none, env := e, cycle := n }

/-- The state after the acknowledgement of the outstanding request with byte `b` on BRDATA. -/
def State.acked (b : Byte) (s : State) : State :=
  { s.busAck with unitP.old := if s.bus.kind = .read1 then b else s.unitP.old }

/-- The states agree on the block and its record; the inputs, the cycle and the read data are not compared. -/
def SameBlock (s t : State) : Prop := s.later [] 0 = t.later [] 0

/-- What SEQ's cycle of a quiet cycle runs on. -/
theorem SameBlock.heard_eq (h : SameBlock s t) : s.heard = t.later s.env s.cycle := by
  have h' : s.later [] 0 = t.later [] 0 := h
  have heq : (s.later [] 0).later s.env s.cycle = (t.later [] 0).later s.env s.cycle := by rw [h']
  exact heq

theorem busAck_tick (s : State) : s.busAck.tick = { (s.acked s.input.brdata) with env := s.env.tail, cycle := s.cycle + 1 } := rfl

theorem AckRun.brings (h : AckRun l) : ∃ b, Brings l b := by
  obtain ⟨w, a, rfl, -⟩ := h
  exact ⟨a.brdata, by simp [Brings]⟩

/-- A request from the cycle after its issue to its acknowledgement. -/
theorem runs_ack {b : Byte} (hp : s.seq = .run p) (hb : s.bus.breq = true) (hl : s.latched = .ok i) (henv : s.env = l ++ r)
    (hack : AckRun l) (hbrings : Brings l b) : ∃ n, Runs l.length s ((s.acked b).later r n) := by
  obtain ⟨w, a, rfl, hw, hqa, hback⟩ := hack
  rw [List.append_assoc] at henv
  obtain ⟨u, hrun, hu, hlu, hue⟩ :=
    runs_quiet (P := fun _ u => SameBlock u s) henv (fun x hx => (hw x hx).1) hl rfl
      (fun k u hu hk hin => by
        have hpu : u.seq = .run p := (congrArg State.seq hu).trans hp
        have hbu : u.bus.breq = true := (congrArg (fun v => v.bus.breq) hu).trans hb
        have hback : u.heard.input.back = false := by
          rw [State.heard_input, hin]
          exact (hw _ (List.getElem_mem hk)).2
        exact ⟨p, _, hpu, exec_waits hpu hbu hback, hu⟩)
      w.length le_rfl
  rw [List.drop_length, List.nil_append] at hue
  have hin : u.input = a := State.input_cons hue
  have hpu : u.seq = .run p := (congrArg State.seq hu).trans hp
  have hbu : u.bus.breq = true := (congrArg (fun v => v.bus.breq) hu).trans hb
  have he : exec i u.heard = .next u.heard.busAck := by
    rw [exec_breq i (s := u.heard) hpu hbu, State.busCycle, if_pos]
    rw [State.heard_input, hin]
    exact hback
  have hbyte : a.brdata = b := by simpa [Brings] using hbrings
  refine ⟨u.cycle + 1, ?_⟩
  have hstep := step_quiet (hin ▸ hqa) hpu hlu he
  have hend : u.heard.busAck.tick = (s.acked b).later r (u.cycle + 1) := by
    rw [busAck_tick, hu.heard_eq]
    change ({ ((s.acked u.input.brdata).later u.env u.cycle) with env := u.env.tail, cycle := u.cycle + 1 } : State) = _
    rw [hin, hbyte, hue]
    rfl
  rw [List.length_append]
  exact hrun.snoc (hend ▸ hstep)

/-- A request from the cycle that issues it to its acknowledgement. -/
theorem runs_request {b : Byte} (hq : Quiet x) (hp : s.seq = .run p) (hl : s.latched = .ok i) (henv : s.env = (x :: l) ++ r)
    (he : exec i s.heard = .next v) (hv : v.seq = .run q) (hb : v.bus.breq = true)
    (hack : AckRun l) (hbrings : Brings l b) : ∃ n, Runs (l.length + 1) s ((v.acked b).later r n) := by
  have hstep := step_quiet (State.input_cons henv ▸ hq) hp hl he
  have henv' : v.tick.env = l ++ r := by
    change v.env.tail = _
    rw [env_of_exec he]
    change s.env.tail = _
    rw [henv]
    rfl
  obtain ⟨n, hrun⟩ := runs_ack (s := v.tick) hv hb ((latched_of_exec he).trans hl) henv' hack hbrings
  exact ⟨n, .head hstep hrun⟩

/-! ## setFreqSeq's wait and its restart write -/

theorem freqMove_later (f : FreqPos) (e : List CycleInput) (n : Nat) (s : State) :
    (s.later e n).freqMove f = (s.freqMove f).later e n := by
  cases f with
  | settle =>
    change State.settleCycle _ = (State.settleCycle _).later e n
    unfold State.settleCycle
    by_cases h : s.unitP.settle.toNat ≤ 1
    · rw [if_pos h, if_pos (c := (s.later e n).unitP.settle.toNat ≤ 1) h]
      rfl
    · rw [if_neg h, if_neg (c := (s.later e n).unitP.settle.toNat ≤ 1) h]
      rfl
  | _ => rfl

/-- The state `k` cycles after the restore write's acknowledgement, but for the inputs: the wait, and the restart write in its
last cycle (R133). -/
def State.settleAfter (s : State) : Nat → State
  | 0 => s
  | k + 1 =>
    if k < settleUs then { s with seq := .run (.freq .settle), unitP.settle := BitVec.ofNat 13 (settleUs - k) }
    else { s with unitP.settle := 0 }.busWrite1 regMode1 s.restartByte (.freq .restart)

/-- A cycle of the wait is setFreqSeq's move at its position. -/
theorem settleAfter_succ (hp : s.resumesAt (.freq .restore)) (hk : k ≤ settleUs) :
    ∃ f, f ≠ .restart ∧ (s.settleAfter k).resumesAt (.freq f) ∧ (s.settleAfter k).freqMove f = s.settleAfter (k + 1) := by
  cases k with
  | zero => exact ⟨.restore, nofun, hp, rfl⟩
  | succ j =>
    have hlt : j < settleUs := hk
    have hu : settleUs = 5000 := rfl
    have hset : (BitVec.ofNat 13 (settleUs - j)).toNat = settleUs - j := by
      rw [BitVec.toNat_ofNat, Nat.mod_eq_of_lt]
      omega
    simp only [State.settleAfter, if_pos hlt]
    refine ⟨.settle, nofun, ⟨rfl, hp.2⟩, ?_⟩
    rw [State.freqMove, State.settleCycle]
    by_cases hj : j + 1 < settleUs
    · rw [if_neg (by rw [hset]; omega), if_pos hj]
      have hpred : BitVec.ofNat 13 (settleUs - j) - 1 = BitVec.ofNat 13 (settleUs - (j + 1)) := by
        apply BitVec.eq_of_toNat_eq
        rw [BitVec.toNat_sub, hset, BitVec.toNat_ofNat]
        simp only [BitVec.reduceToNat]
        omega
      rw [hpred]
    · rw [if_pos (by rw [hset]; omega), if_neg hj]
      rfl

theorem settleAfter_wait (hk : k < settleUs) :
    s.settleAfter (k + 1) = { s with seq := .run (.freq .settle), unitP.settle := BitVec.ofNat 13 (settleUs - k) } := if_pos hk

theorem settleAfter_end (s : State) :
    s.settleAfter (settleUs + 1) = { s with unitP.settle := 0 }.busWrite1 regMode1 s.restartByte (.freq .restart) := by
  rw [State.settleAfter, if_neg (lt_irrefl _)]

theorem settleAfter_frame (hk : k ≤ settleUs) :
    (s.settleAfter k).status = s.status ∧ (s.settleAfter k).bus = s.bus ∧ (s.settleAfter k).snap = s.snap ∧
      (s.settleAfter k).unitP.initpend = s.unitP.initpend := by
  cases k with
  | zero => exact ⟨rfl, rfl, rfl, rfl⟩
  | succ j =>
    rw [settleAfter_wait hk]
    exact ⟨rfl, rfl, rfl, rfl⟩

theorem settleAfter_inFreqSeq (h : InFreqSeq i s) (hk : k ≤ settleUs) : InFreqSeq i (s.settleAfter k) := by
  obtain ⟨-, -, hsnap, hpend⟩ := settleAfter_frame (s := s) hk
  unfold InFreqSeq
  rwa [hsnap, hpend]

/-- From the restore write's return on, the wait passes through its states one by one. -/
theorem runs_settle (h : InFreqSeq i s) (hp : s.resumesAt (.freq .restore)) (hl : s.latched = .ok i) (henv : s.env = l ++ r)
    (hq : ∀ x ∈ l, Quiet x) (hlen : l.length = settleUs + 1) :
    ∀ k ≤ l.length, ∃ t, Runs k s t ∧ SameBlock t (s.settleAfter k) ∧ t.latched = .ok i ∧ t.env = l.drop k ++ r :=
  runs_quiet henv hq hl rfl fun k u hu hk _ => by
    obtain ⟨f, hf, hpf, hmove⟩ := settleAfter_succ hp (k := k) (by omega)
    have he : exec i u.heard = .next ((s.settleAfter (k + 1)).later u.env u.cycle) := by
      rw [hu.heard_eq, ← hmove, ← freqMove_later]
      exact exec_freqMove (settleAfter_inFreqSeq h (by omega)) hpf hf
    exact ⟨_, _, (congrArg State.seq hu).trans hpf.1, he, rfl⟩

/-- Settles O38: the acknowledging cycle, and then the states of the wait, of which only the last issues a request. -/
theorem settleGap : Obligations.SettleGap := by
  unfold Obligations.SettleGap
  intro s i x l rest hp hb hl h hbusy hk henv hqx hback hq hlen
  have hin : s.input = x := State.input_cons henv
  have he : exec i s.heard = .next s.heard.busAck := by
    rw [exec_breq i (s := s.heard) hp hb, State.busCycle, if_pos]
    rw [State.heard_input, hin]
    exact hback
  have hstep := step_quiet (hin ▸ hqx) hp hl he
  have hold : s.heard.busAck.tick.restartByte = s.unitP.old ||| s.masks.restartOr := by
    change (if s.bus.kind = .read1 then s.input.brdata else s.unitP.old) ||| s.masks.restartOr = _
    rw [hk, if_neg nofun]
  have hruns := runs_settle (i := i) (s := s.heard.busAck.tick) (l := l) (r := rest) h ⟨hp, rfl⟩ hl
    (congrArg List.tail henv) hq hlen
  refine ⟨fun k h1 h2 => ?_, ?_⟩
  · obtain ⟨j, rfl⟩ := Nat.exists_eq_add_of_le' h1
    obtain ⟨t, hrun, ht, -⟩ := hruns j (by omega)
    obtain ⟨hst, hbus, -⟩ := settleAfter_frame (s := s.heard.busAck.tick) (k := j) (by change _ ≤ 5000; omega)
    refine ⟨t, .head hstep hrun, ?_, ?_⟩
    · exact congrArg BusPort.breq ((congrArg State.bus ht).trans hbus)
    · exact (congrArg Status.busy ((congrArg State.status ht).trans hst)).trans hbusy
  · obtain ⟨t, hrun, ht, -, hte⟩ := hruns 5001 (by omega)
    have hend : SameBlock t _ := ht.trans (congrArg _ (settleAfter_end _))
    refine ⟨t, .head hstep hrun, ?_, congrArg State.seq hend, (congrArg State.bus hend).trans ?_⟩
    · rw [hte, ← hlen, List.drop_length, List.nil_append]
    · rw [← hold]
      rfl

end Sys2Proof.Machine
end

section
/-! PROOFS. The runs of commands: the pure commands, SET_CHANNEL and INIT (spec/70_reset_and_hazards.md R320). -/

namespace Sys2Proof.Machine

variable {i : Instr} {s t u v : State} {p q : SeqPos} {x : CycleInput} {l r : List CycleInput} {j k n : Nat}

/-! ## The pure commands -/

/-- A pure command's first SEQ cycle ends in `complete`. -/
theorem exec_pure_completes (hi : isPure i = true) (hp : s.resumesAt .start) (hd : divZeroOperands i s.snap = false) :
    ∃ v : State, exec i s = .next v.complete := by
  cases i with
  | nop sel => exact ⟨_, exec_nop_start sel hp⟩
  | calcPrescale sel => exact ⟨_, exec_calcPrescale_start sel hp (by simpa [divZeroOperands] using hd)⟩
  | clampTick sel => exact ⟨_, exec_clampTick_start sel hp⟩
  | mapLinear sel => exact ⟨_, exec_mapLinear_start sel hp (by simpa [divZeroOperands] using hd)⟩
  | mapMotor sel => exact ⟨_, exec_mapMotor_start sel hp⟩
  | _ => cases hi

/-- Settles O32: the accepting cycle latches the command at its start, and the next cycle is its only SEQ cycle. -/
theorem pureCommandsTakeOneCycle : Obligations.PureCommandsTakeOneCycle := by
  unfold Obligations.PureCommandsTakeOneCycle
  intro s w x y rest i ⟨hseq, hbusy⟩ hb henv hrst hhost hquiet hdec hd hi
  have hin : s.input = x := State.input_cons henv
  have hstep := acceptedCommandIsLatched s 0 w ⟨hin ▸ hrst, hin ▸ hhost⟩ rfl
    (State.requestCode_eq_none_iff.2 ⟨hbusy, i, hdec, hd⟩)
  generalize ht : State.mk .. = t at hstep
  have henvt : t.env = y :: rest := by rw [← ht]; exact congrArg List.tail henv
  have hbust : t.bus = s.bus := by rw [← ht]
  have hready : t.status.ready = s.status.ready := by rw [← ht]
  have hsnap : t.snap = s.arg := by rw [← ht]
  have hp : t.resumesAt .start := ⟨by rw [← ht], hbust ▸ hb⟩
  have hl : t.latched = .ok i := by rw [← ht]; exact decodeFields_of_decodeWord hdec
  obtain ⟨v, hv⟩ := exec_pure_completes (s := t.heard) hi hp (by change divZeroOperands i t.snap = false; rwa [hsnap])
  obtain ⟨-, hvsnap, -, -, -, hvbus, -, -, -, -, -, -, hvenv, hvcycle, -, hvready, -⟩ :=
    pureCommandsFrame _ _ _ hi (hbust ▸ hb) hv
  have hend := step_quiet (State.input_cons henvt ▸ hquiet) hp.1 hl hv
  refine ⟨t, v.complete.tick, .one hstep, by rw [← ht], .head hstep (.one hend), ⟨rfl, rfl⟩, rfl, hvbus.trans hbust,
    hvready.trans hready, ?_, hvsnap.trans hsnap, ?_⟩
  · change v.complete.env.tail = rest
    rw [hvenv]
    change t.env.tail = rest
    rw [henvt]
    rfl
  · change exec i t.heard = .next { v.complete with env := y :: rest, cycle := t.cycle }
    rw [hv, ← henvt, ← show v.complete.env = t.env from hvenv, ← show v.complete.cycle = t.cycle from hvcycle]

/-! ## SET_CHANNEL -/

/-- The bytes of a word built from four, from the lowest up (spec/10_state.md R44). -/
theorem busByte_append (a b c d : Byte) :
    busByte (((c ++ d) ++ a) ++ b) 0 = b ∧ busByte (((c ++ d) ++ a) ++ b) 1 = a ∧
      busByte (((c ++ d) ++ a) ++ b) 2 = d ∧ busByte (((c ++ d) ++ a) ++ b) 3 = c := by
  have ha := a.isLt
  have hb := b.isLt
  have hd := d.isLt
  have h : (((c ++ d) ++ a) ++ b).toNat = ((c.toNat * 256 + d.toNat) * 256 + a.toNat) * 256 + b.toNat := by
    simp only [BitVec.toNat_append]
    rw [← Nat.shiftLeft_add_eq_or_of_lt hb, ← Nat.shiftLeft_add_eq_or_of_lt ha, ← Nat.shiftLeft_add_eq_or_of_lt hd]
    simp only [Nat.shiftLeft_eq]
  refine ⟨?_, ?_, ?_, ?_⟩ <;> apply BitVec.eq_of_toNat_eq <;>
    rw [busByte, BitVec.extractLsb'_toNat, h, Nat.shiftRight_eq_div_pow] <;> omega

/-- The bytes of a channel frame from the lowest up (R138). -/
theorem busByte_frame (on off : Int) :
    busByte (frame on off) 0 = BitVec.ofInt 8 on ∧ busByte (frame on off) 1 = BitVec.ofInt 8 (on / 256) ∧
      busByte (frame on off) 2 = BitVec.ofInt 8 off ∧ busByte (frame on off) 3 = BitVec.ofInt 8 (off / 256) :=
  busByte_append (tickHigh on) (tickLow on) (tickHigh off) (tickLow off)

/-- Settles O46: the first cycle issues the frame, its acknowledgement records the four bytes, and the next cycle completes. -/
theorem setChannelRunsToCompletion : Obligations.SetChannelRunsToCompletion := by
  unfold Obligations.SetChannelRunsToCompletion
  intro s ch x0 x1 l rest h0 h15 hp hl hbusy hready hq0 hq1 hack henv on2 off2 r
  obtain ⟨-, hissue, -⟩ := setChannelCompletes s.heard ch
  have he := hissue s.heard h0 h15 (.inl ⟨hp, hready, rfl⟩)
  obtain ⟨b, hbrings⟩ := hack.brings
  obtain ⟨n, hrun⟩ := runs_request hq0 hp.1 hl henv he rfl rfl hack hbrings
  generalize ht : State.later (x1 :: rest) n _ = t at hrun
  have henvt : t.env = x1 :: rest := by rw [← ht]; rfl
  have hlt : t.latched = .ok (.setChannel ch) := by rw [← ht]; exact hl
  have hpt : t.resumesAt .chanFirst := by rw [← ht]; exact ⟨rfl, rfl⟩
  have hsnap : t.snap = s.snap := by rw [← ht]; rfl
  have hchip : t.chip = s.chip.writeBytes (channelReg ch).toNat (frame on2 off2) 4 := by rw [← ht]; rfl
  obtain ⟨-, -, hend⟩ := setChannelCompletes t.heard ch
  have hstep := step_quiet (State.input_cons henvt ▸ hq1) hpt.1 hlt (hend h0 h15 hpt)
  have hr : (channelReg ch).toNat = r := by
    have := channelReg_toNat h0 h15
    omega
  rw [hr] at hchip
  obtain ⟨hb0, hb1, hb2, hb3⟩ := busByte_frame on2 off2
  have hlen : 2 + l.length = (l.length + 1) + 1 := by omega
  have hrun' := hrun.snoc hstep
  rw [← hlen] at hrun'
  refine ⟨_, hrun', ⟨rfl, rfl⟩, rfl, ?_, ?_, ?_, ?_⟩
  · change t.env.tail = rest
    rw [henvt]
    rfl
  · change BitVec.ofInt 32 (clampTick t.snap.a0.toInt).1 = _
    rw [hsnap]
  · change BitVec.ofInt 32 (clampTick t.snap.a1.toInt).1 = _
    rw [hsnap]
  · change Memory.read t.chip r = _ ∧ Memory.read t.chip (r + 1) = _ ∧ Memory.read t.chip (r + 2) = _ ∧
      Memory.read t.chip (r + 3) = _ ∧ ∀ a, _ → Memory.read t.chip a = _
    simp only [hchip, Memory.read_writeBytes]
    refine ⟨?_, ?_, ?_, ?_, fun a ha => if_neg (by omega)⟩ <;> simp [hb0, hb1, hb2, hb3]

/-! ## INIT -/

/-- INIT, begun in state `s`, resumes at position `f` of ensureReady's setFreqSeq with MODE1's byte `b` in OLD. -/
structure InitAt (s : State) (sel b : Byte) (f : FreqPos) (t : State) : Prop where
  resumes : t.resumesAt (.freq f)
  latched : t.latched = .ok (.init sel)
  initpend : t.unitP.initpend = true
  status : t.status = s.status
  results : t.result0 = s.result0 ∧ t.result1 = s.result1
  masks : t.masks = s.masks
  pscb : t.unitP.pscb = 0x79
  old : t.unitP.old = b

variable {sel b c reg d : Byte} {f f' : FreqPos} {z : BitVec 13}

theorem InitAt.inFreqSeq (h : InitAt s sel b f t) : InFreqSeq (.init sel) t := by
  rw [InFreqSeq, h.initpend]
  exact ⟨rfl, rfl⟩

/-- The next position after the acknowledgement of a write that setFreqSeq issues there. -/
theorem InitAt.acked (h : InitAt s sel b f t)
    (hu : u = (({ t with unitP.settle := z }.busWrite1 reg d (.freq f')).acked c).later r n) :
    InitAt s sel b f' u ∧ u.env = r ∧ u.chip = t.chip.writeBytes reg.toNat (d.setWidth 32) 1 ∧
      u.lastPsc = if f' = .prescale then { valid := true, psc := 0x79 } else t.lastPsc := by
  subst hu
  refine ⟨⟨⟨rfl, rfl⟩, h.latched, h.initpend, h.status, h.results, h.masks, h.pscb, h.old⟩, rfl, rfl, ?_⟩
  rw [← h.pscb]
  cases f' <;> rfl

/-- A write of setFreqSeq before its wait, from the cycle that issues it to its acknowledgement. -/
theorem InitAt.request (h : InitAt s sel b f t) (hf : f ≠ .restart) (hm : t.freqMove f = t.busWrite1 reg d (.freq f'))
    (hq : Quiet x) (henv : t.env = (x :: l) ++ r) (hack : AckRun l) :
    ∃ u, Runs (l.length + 1) t u ∧ InitAt s sel b f' u ∧ u.env = r ∧
      u.chip = t.chip.writeBytes reg.toNat (d.setWidth 32) 1 ∧
      u.lastPsc = if f' = .prescale then { valid := true, psc := 0x79 } else t.lastPsc := by
  obtain ⟨c, hc⟩ := hack.brings
  have he : exec (.init sel) t.heard = .next (t.heard.freqMove f) := exec_freqMove (s := t.heard) h.inFreqSeq h.resumes hf
  rw [show t.heard = t.later t.env t.cycle from rfl, freqMove_later, hm] at he
  obtain ⟨n, hrun⟩ := runs_request hq h.resumes.1 h.latched henv he rfl rfl hack hc
  exact ⟨_, hrun, h.acked rfl⟩

theorem busByte_setWidth (d : Byte) : busByte (d.setWidth 32) 0 = d := by
  apply BitVec.eq_of_toNat_eq
  rw [busByte, BitVec.extractLsb'_toNat, BitVec.toNat_setWidth, Nat.shiftRight_eq_div_pow]
  omega

/-- Recording one byte: its address reads it, every other address as before. -/
theorem read_writeByte (m : Memory) (a y : Nat) (d : Byte) :
    Memory.read (m.writeBytes a (d.setWidth 32) 1) y = if y = a then some d else Memory.read m y := by
  rw [Memory.read_writeBytes]
  by_cases h : y = a
  · rw [if_pos h, if_pos (by omega), h, Nat.sub_self, busByte_setWidth]
  · rw [if_neg h, if_neg (by omega)]

/-- INIT from READY = 0 to the acknowledgement of its MODE1 read (R131, R133). -/
theorem init_runs_to_read {x0 x1 : CycleInput} {l0 l1 : List CycleInput} (hp : s.resumesAt .start)
    (hl : s.latched = .ok (.init sel)) (hready : s.status.ready = false) (hq0 : Quiet x0) (hq1 : Quiet x1) (h0 : AckRun l0)
    (h1 : AckRun l1) (hb : Brings l1 b) (henv : s.env = (x0 :: l0) ++ ((x1 :: l1) ++ r)) :
    ∃ t, Runs ((l0.length + 1) + (l1.length + 1)) s t ∧ InitAt s sel b .read t ∧ t.env = r := by
  obtain ⟨c, hc⟩ := h0.brings
  have he0 := (ensureReadyRunsFirst (.init sel) s.heard rfl rfl).1 hp hready
  obtain ⟨n, hrun0⟩ := runs_request hq0 hp.1 hl henv he0 rfl rfl h0 hc
  generalize ht : State.later ((x1 :: l1) ++ r) n _ = t at hrun0
  have hpt : t.resumesAt .initWake := by rw [← ht]; exact ⟨rfl, rfl⟩
  have hlt : t.latched = .ok (.init sel) := by rw [← ht]; exact hl
  have henvt : t.env = (x1 :: l1) ++ r := by rw [← ht]; rfl
  have hpend : t.unitP.initpend = true := by rw [← ht]; rfl
  have hst : t.status = s.status := by rw [← ht]; rfl
  have hres : t.result0 = s.result0 ∧ t.result1 = s.result1 := by rw [← ht]; exact ⟨rfl, rfl⟩
  have hmasks : t.masks = s.masks := by rw [← ht]; rfl
  clear ht
  have he1 := (ensureReadyRunsFirst (.init sel) t.heard rfl rfl).2 hpt
  obtain ⟨n', hrun1⟩ := runs_request hq1 hpt.1 hlt henvt he1 rfl rfl h1 hb
  exact ⟨_, hrun0.add hrun1, ⟨⟨rfl, rfl⟩, hlt, hpend, hst, hres, hmasks, rfl, rfl⟩, rfl⟩

/-- From the restore write's acknowledgement to that of the restart write (R133). -/
theorem InitAt.settle {w : List CycleInput} (h : InitAt s sel b .restore t) (henv : t.env = w ++ (l ++ r))
    (hq : ∀ x ∈ w, Quiet x) (hw : w.length = 5001) (hack : AckRun l) :
    ∃ u, Runs (5001 + l.length) t u ∧ InitAt s sel b .restart u ∧ u.env = r ∧
      u.chip = t.chip.writeBytes 0x00 ((b ||| s.masks.restartOr).setWidth 32) 1 ∧ u.lastPsc = t.lastPsc := by
  obtain ⟨c, hc⟩ := hack.brings
  obtain ⟨v, hrun, hv, hlv, henv⟩ := runs_settle h.inFreqSeq h.resumes h.latched henv hq hw w.length le_rfl
  have hend : SameBlock v ({ t with unitP.settle := 0 }.busWrite1 regMode1 (b ||| s.masks.restartOr) (.freq .restart)) := by
    rw [hw] at hv
    rw [← h.old, ← h.masks]
    exact hv.trans (congrArg _ (settleAfter_end t))
  rw [List.drop_length, List.nil_append] at henv
  obtain ⟨n, hrun'⟩ := runs_ack (s := v) (congrArg State.seq hend) (congrArg (fun u => u.bus.breq) hend) hlv henv hack hc
  have hu : (v.acked c).later r n = (({ t with unitP.settle := 0 }.busWrite1 regMode1 (b ||| s.masks.restartOr)
      (.freq .restart)).acked c).later r n := by
    change (v.heard.acked c).later r n = _
    rw [hend.heard_eq]
    rfl
  obtain ⟨hat, henv, hchip, hpsc⟩ := h.acked hu
  exact ⟨_, hw ▸ hrun.add hrun', hat, henv, hchip, hpsc⟩

/-- Settles O42: the six requests and the wait in turn, and the end in the cycle after the restart write's acknowledgement. -/
theorem initRunsToReady : Obligations.InitRunsToReady := by
  unfold Obligations.InitRunsToReady
  intro s sel b x0 x1 x2 x3 x4 x5 x6 l0 l1 l2 l3 l4 l5 w rest hp hl hbusy hready hq hqw hw h0 h1 h2 h3 h4 h5 hb henv
  simp only [List.forall_mem_cons] at hq
  obtain ⟨hq0, hq1, hq2, hq3, hq4, hq5, hq6, -⟩ := hq
  obtain ⟨t1, hr1, hat1, henv1⟩ := init_runs_to_read hp hl hready hq0 hq1 h0 h1 hb henv
  obtain ⟨t2, hr2, hat2, henv2, hchip2, hpsc2⟩ := hat1.request nofun rfl hq2 henv1 h2
  obtain ⟨t3, hr3, hat3, henv3, hchip3, hpsc3⟩ := hat2.request nofun rfl hq3 henv2 h3
  obtain ⟨t4, hr4, hat4, henv4, hchip4, hpsc4⟩ := hat3.request nofun rfl hq4 henv3 h4
  obtain ⟨t5, hr5, hat5, henv5, hchip5, hpsc5⟩ :=
    hat4.settle henv4 (List.forall_mem_cons.2 ⟨hq5, hqw⟩) (by rw [List.length_cons, hw]) h5
  have he := initCompletes t5.heard _ sel (.inr ⟨hat5.resumes, hat5.initpend, rfl⟩)
  have hr6 := step_quiet (State.input_cons henv5 ▸ hq6) hat5.resumes.1 hat5.latched he
  have hlen : 5007 + l0.length + l1.length + l2.length + l3.length + l4.length + l5.length =
      (l0.length + 1) + (l1.length + 1) + (l2.length + 1) + (l3.length + 1) + (l4.length + 1) + (5001 + l5.length) + 1 := by
    omega
  have hrun := ((((hr1.add hr2).add hr3).add hr4).add hr5).snoc hr6
  rw [← hlen] at hrun
  refine ⟨_, hrun, ⟨rfl, rfl⟩, ?_, ?_, hat5.results.1, hat5.results.2, rfl, hat5.old, congrArg List.tail henv5, ?_⟩
  · rw [← hat5.status]
    rfl
  · exact hpsc5.trans (hpsc4.trans hpsc3)
  · change Memory.read t5.chip 0x00 = _ ∧ Memory.read t5.chip 0xFE = _
    rw [hchip5, hchip4, hchip3, hat2.pscb]
    simp only [read_writeByte]
    exact ⟨rfl, rfl⟩

end Sys2Proof.Machine
end

section
/-! PROOFS. The runs of ULTRASONIC: its trigger pulse and the echo (spec/43_sensors.md section 1). -/

namespace Sys2Proof.Machine

variable {s t u v : State} {sel : Byte} {l r lows highs : List CycleInput} {a k n : Nat}

/-! ## The trigger -/

/-- Where ULTRASONIC stands `k` cycles after its first SEQ cycle began (R231). -/
def trigPosition (k : Nat) : SeqPos :=
  if k = 0 then .start else if k ≤ 2 then .trigLow (2 - k) else if k ≤ 12 then .trigHigh (12 - k) else .trigFall

/-- The trigger's state after `k` cycles: where SEQ stands, and TRIG_OUT from the first cycle's end on. -/
structure TriggerAt (s : State) (k : Nat) (u : State) : Prop where
  resumes : u.resumesAt (trigPosition k)
  level : 1 ≤ k → u.trigOut = decide (3 ≤ k ∧ k ≤ 12)
  status : u.status = s.status
  bus : u.bus = s.bus

theorem TriggerAt.exec (h : TriggerAt s k u) (hk : k < 13) :
    ∃ v, exec (.ultrasonic sel) u.heard = .next v ∧ TriggerAt s (k + 1) v := by
  obtain ⟨hp, hlevel, hst, hbus⟩ := h
  obtain ⟨hstart, hlow, hlow0, hhigh, hhigh0, -⟩ := ultrasonicCycles u.heard sel
  have hb := hp.2
  rcases (by omega : k = 0 ∨ k = 1 ∨ k = 2 ∨ (3 ≤ k ∧ k ≤ 11) ∨ k = 12) with rfl | rfl | rfl | ⟨h3, h11⟩ | rfl
  · exact ⟨_, hstart hp, ⟨rfl, hb⟩, fun _ => rfl, hst, hbus⟩
  · exact ⟨_, hlow 0 hp, ⟨rfl, hb⟩, fun _ => hlevel le_rfl, hst, hbus⟩
  · exact ⟨_, hlow0 hp, ⟨rfl, hb⟩, fun _ => rfl, hst, hbus⟩
  · have hpos : trigPosition k = .trigHigh (11 - k + 1) := by
      rw [trigPosition, if_neg (by omega), if_neg (by omega), if_pos (by omega)]
      congr 1
      omega
    have hpos' : trigPosition (k + 1) = .trigHigh (11 - k) := by
      rw [trigPosition, if_neg (by omega), if_neg (by omega), if_pos (by omega)]
      congr 1
      omega
    rw [hpos] at hp
    refine ⟨_, hhigh (11 - k) hp, ⟨by rw [hpos'], hb⟩, fun _ => (hlevel (by omega)).trans ?_, hst, hbus⟩
    rw [decide_eq_true (by omega), decide_eq_true (by omega)]
  · exact ⟨_, hhigh0 hp, ⟨rfl, hb⟩, fun _ => rfl, hst, hbus⟩

/-- Settles O49: the trigger passes through its positions. -/
theorem triggerPulse : Obligations.TriggerPulse := by
  unfold Obligations.TriggerPulse
  intro s sel hp hl hbusy hlen hq
  have hlen' : (s.env.take 13).length = 13 := by simp [hlen]
  have hruns := runs_quiet (P := TriggerAt s) (List.take_append_drop 13 s.env).symm hq hl ⟨hp, nofun, rfl, rfl⟩
    fun k u hu hk _ => by
      obtain ⟨v, he, hv⟩ := hu.exec (sel := sel) (by omega)
      exact ⟨_, v, hu.resumes.1, he, hv.resumes, hv.level, hv.status, hv.bus⟩
  rw [hlen'] at hruns
  refine ⟨fun k h1 h13 => ?_, ?_⟩
  · obtain ⟨t, hrun, ht, -⟩ := hruns k h13
    exact ⟨t, hrun, ht.level h1, ht.status ▸ hbusy, ht.bus⟩
  · obtain ⟨t, hrun, ht, -, henv⟩ := hruns 13 le_rfl
    exact ⟨t, hrun, ht.resumes, by rw [henv, List.drop_eq_nil_of_le hlen'.le, List.nil_append]⟩

/-! ## The echo -/

/-- captureEcho before sample `k`, when the echo rises at sample `a` and has not fallen (R232). -/
structure EchoAt (s : State) (a k : Nat) (u : State) : Prop where
  resumes : u.resumesAt .echo
  ut : u.unitU.ut.toNat = k
  waiting : k ≤ a → u.unitU.uph = .waitHigh
  high : a < k → u.unitU.uph = .high ∧ u.unitU.ua.toNat = a
  noEcho : u.status.noEcho = s.status.noEcho

/-- A sample before the deadline: the rise is recorded at sample `a`. -/
theorem EchoAt.exec (h : EchoAt s a k u) (hin : u.input.echoIn = decide (a ≤ k)) (hk : k < echoTimeoutUs) :
    ∃ v, exec (.ultrasonic sel) u.heard = .next v ∧ EchoAt s a (k + 1) v := by
  obtain ⟨hp, hut, hwait, hhigh, hne⟩ := h
  have hu : echoTimeoutUs = 29000 := rfl
  have hut' : u.heard.unitU.ut.toNat ≠ echoTimeoutUs := by
    change u.unitU.ut.toNat ≠ _
    omega
  have hsucc : (u.unitU.ut + 1).toNat = k + 1 := by rw [toNat_succ (by omega), hut]
  have he := exec_echo (s := u.heard) sel hp
  by_cases hak : a < k
  · obtain ⟨huph, hua⟩ := hhigh hak
    have hin' : u.heard.input.echoIn = true := by rw [State.heard_input, hin, decide_eq_true hak.le]
    rw [echoCycle_high (s := u.heard) huph hin', echoDeadline_before hut'] at he
    exact ⟨_, he, ⟨rfl, hp.2⟩, hsucc, fun h => absurd h (by omega), fun _ => ⟨huph, hua⟩, hne⟩
  · rw [echoCycle_waitHigh (s := u.heard) (hwait (by omega)), echoDeadline_before (by exact hut')] at he
    refine ⟨_, he, ⟨rfl, hp.2⟩, hsucc, fun h => ?_, fun h => ?_, hne⟩
    · change (if u.heard.input.echoIn then EchoPhase.high else .waitHigh) = _
      rw [State.heard_input, hin, if_neg (by simp; omega)]
    · have hin' : u.heard.input.echoIn = true := by
        rw [State.heard_input, hin]
        exact decide_eq_true (by omega)
      change (if u.heard.input.echoIn then EchoPhase.high else .waitHigh) = _ ∧
        (if u.heard.input.echoIn then u.heard.unitU.ut else u.heard.unitU.ua).toNat = a
      rw [hin']
      exact ⟨rfl, hut.trans (by omega)⟩

/-- The state in which captureEcho's loop has been entered, and its first iteration is still to come. -/
def State.echoEntry (s : State) : State :=
  { s with seq := .run .echo, unitU := { uph := .waitHigh, ut := 0, ua := s.unitU.ua } }

/-- captureEcho's first cycle is its first iteration (R232). -/
theorem step_trigFall (hq : Quiet s.input) (hp : s.resumesAt .trigFall) (hl : s.latched = .ok (.ultrasonic sel)) :
    step s = step s.echoEntry := by
  have he : exec (.ultrasonic sel) s.echoEntry.heard = .next s.heard.echoStart := by
    have hentry : s.echoEntry.heard.echoCycle = s.echoEntry.heard.echoStart := rfl
    rw [exec_echo (s := s.echoEntry.heard) sel ⟨rfl, hp.2⟩, hentry, echoStart_eq, echoStart_eq]
    rfl
  rw [step_quiet hq hp.1 hl (exec_trigFall (s := s.heard) sel hp), step_quiet (s := s.echoEntry) hq rfl hl he]

/-- The level of ECHO_IN in sample `k` of low samples followed by high ones. -/
theorem echoIn_getElem (hlow : ∀ x ∈ lows, Quiet x ∧ x.echoIn = false)
    (hhigh : ∀ x ∈ highs, Quiet x ∧ x.echoIn = true)
    (hk : k < (lows ++ highs).length) : (lows ++ highs)[k].echoIn = decide (lows.length ≤ k) := by
  rw [List.getElem_append]
  split
  · next h => rw [(hlow _ (List.getElem_mem h)).2, decide_eq_false (by omega)]
  · next h =>
    rw [(hhigh _ (List.getElem_mem _)).2, decide_eq_true (by omega)]

theorem quiet_samples (hlow : ∀ x ∈ lows, Quiet x ∧ x.echoIn = false)
    (hhigh : ∀ x ∈ highs, Quiet x ∧ x.echoIn = true) :
    ∀ x ∈ lows ++ highs, Quiet x := by
  intro x hx
  rcases List.mem_append.1 hx with h | h
  · exact (hlow x h).1
  · exact (hhigh x h).1

theorem State.input_mem (henv : s.env = l ++ r) (hl : l ≠ []) : s.input ∈ l := by
  obtain ⟨x, l, rfl⟩ := List.exists_cons_of_ne_nil hl
  rw [State.input_cons henv]
  exact List.mem_cons_self

/-- The samples of low ECHO_IN and then of high, up to the deadline. -/
theorem runs_echo (hlow : ∀ x ∈ lows, Quiet x ∧ x.echoIn = false) (hhigh : ∀ x ∈ highs, Quiet x ∧ x.echoIn = true)
    (hb : s.bus.breq = false) (hl : s.latched = .ok (.ultrasonic sel)) (henv : s.env = (lows ++ highs) ++ r)
    (hn : n ≤ (lows ++ highs).length) (hdeadline : n ≤ echoTimeoutUs) :
    ∃ t, Runs n s.echoEntry t ∧ EchoAt s lows.length n t ∧ t.latched = .ok (.ultrasonic sel) ∧
      t.env = (lows ++ highs).drop n ++ r := by
  have hq := quiet_samples hlow hhigh
  have hlen : ((lows ++ highs).take n).length = n := List.length_take_of_le hn
  have hentry : EchoAt s lows.length 0 s.echoEntry := ⟨⟨rfl, hb⟩, rfl, fun _ => rfl, nofun, rfl⟩
  obtain ⟨t, hrun, ht, hlt, hte⟩ :=
    runs_quiet (P := EchoAt s lows.length) (s := s.echoEntry) (l := (lows ++ highs).take n) (r := (lows ++ highs).drop n ++ r)
      (by rw [← List.append_assoc, List.take_append_drop]; exact henv) (fun x hx => hq x (List.mem_of_mem_take hx)) hl hentry
      (fun k u hu hk hin => by
        rw [hlen] at hk
        have hecho : u.input.echoIn = decide (lows.length ≤ k) := by
          rw [hin, List.getElem_take, echoIn_getElem hlow hhigh]
        obtain ⟨v, he, hv⟩ := hu.exec (sel := sel) hecho (hk.trans_le hdeadline)
        exact ⟨_, v, hu.resumes.1, he, hv.resumes, hv.ut, hv.waiting, hv.high, hv.noEcho⟩)
      n hlen.ge
  rw [List.drop_eq_nil_of_le hlen.le, List.nil_append] at hte
  exact ⟨t, hrun, ht, hlt, hte⟩

/-- Settles O50: after the low and the high samples the falling one ends the echo, whose width is the number of high ones. -/
theorem echoWidthCaptured : Obligations.EchoWidthCaptured := by
  unfold Obligations.EchoWidthCaptured
  intro s sel lows highs rest z hp hl hbusy hlow hhigh hqz hz hpos hle henv
  rw [← List.append_assoc] at henv
  have hlen : (lows ++ highs).length = lows.length + highs.length := List.length_append
  have hne : lows ++ highs ≠ [] := List.ne_nil_of_length_pos (by omega)
  have hq0 := quiet_samples hlow hhigh _ (State.input_mem henv hne)
  obtain ⟨t, hrun, ht, hlt, hte⟩ := runs_echo hlow hhigh hp.2 hl henv hlen.ge hle
  rw [← hlen, List.drop_length, List.nil_append] at hte
  have hin : t.input = z := State.input_cons hte
  obtain ⟨huph, hua⟩ := ht.high (by omega)
  have hut := ht.ut
  have he := exec_echo (s := t.heard) sel ht.resumes
  have hle' : t.unitU.ua.toNat ≤ t.unitU.ut.toNat := by omega
  rw [echoCycle_falling (s := t.heard) huph (by rw [State.heard_input, hin, hz]) hle'] at he
  have hwidth : t.unitU.ut.toNat - t.unitU.ua.toNat = highs.length := by omega
  have hend := hrun.snoc (step_quiet (hin ▸ hqz) ht.resumes.1 hlt he)
  refine ⟨_, .of_step_eq (step_trigFall hq0 hp hl) hend, ⟨rfl, rfl⟩, rfl, ht.noEcho, congrArg List.tail hte, ?_, ?_⟩
  · exact congrArg (BitVec.ofNat 32) hwidth
  · exact congrArg (fun w => BitVec.ofNat 32 (w / 58)) hwidth

/-- An iteration at the deadline without a falling sample times out (R232). -/
theorem exec_echo_timeout (hp : s.resumesAt .echo) (hut : s.unitU.ut.toNat = echoTimeoutUs)
    (h : s.unitU.uph = .waitHigh ∨ s.unitU.uph = .high ∧ s.input.echoIn = true) :
    ∃ v, exec (.ultrasonic sel) s = .next v ∧ v.isIdle ∧ v.status.done = true ∧ v.status.noEcho = true ∧ v.env = s.env ∧
      v.result0 = 0 ∧ v.result1 = 0 := by
  rw [exec_echo sel hp]
  rcases h with h | ⟨h, hin⟩
  · rw [echoCycle_waitHigh h, echoDeadline_at (by exact hut)]
    exact ⟨_, rfl, ⟨rfl, rfl⟩, rfl, rfl, rfl, rfl, rfl⟩
  · rw [echoCycle_high h hin, echoDeadline_at hut]
    exact ⟨_, rfl, ⟨rfl, rfl⟩, rfl, rfl, rfl, rfl, rfl⟩

/-- Settles O51: at the deadline unit U still waits for the echo, or sees it high. -/
theorem echoTimesOut : Obligations.EchoTimesOut := by
  unfold Obligations.EchoTimesOut
  intro s sel lows highs rest hp hl hbusy hlow hhigh hsum henv
  rw [← List.append_assoc] at henv
  have hlen : (lows ++ highs).length = 29001 := List.length_append.trans hsum
  have hne : lows ++ highs ≠ [] := List.ne_nil_of_length_pos (by omega)
  have hq := quiet_samples hlow hhigh
  obtain ⟨t, hrun, ht, hlt, hte⟩ := runs_echo (n := 29000) hlow hhigh hp.2 hl henv (by omega) le_rfl
  have hk : 29000 < (lows ++ highs).length := by omega
  rw [List.drop_eq_getElem_cons hk, List.drop_eq_nil_of_le hlen.le, List.singleton_append] at hte
  have hin : t.input = (lows ++ highs)[29000] := State.input_cons hte
  have hphase : t.unitU.uph = .waitHigh ∨ t.unitU.uph = .high ∧ t.heard.input.echoIn = true := by
    by_cases h : 29000 ≤ lows.length
    · exact .inl (ht.waiting h)
    · rw [State.heard_input, hin, echoIn_getElem hlow hhigh hk]
      exact .inr ⟨(ht.high (by omega)).1, decide_eq_true (by omega)⟩
  obtain ⟨v, he, hidle, hdone, hno, hve, hr0, hr1⟩ := exec_echo_timeout (s := t.heard) (sel := sel) ht.resumes ht.ut hphase
  have hend := hrun.snoc (step_quiet (hin ▸ hq _ (List.getElem_mem hk)) ht.resumes.1 hlt he)
  refine ⟨_, .of_step_eq (step_trigFall (hq _ (State.input_mem henv hne)) hp hl) hend, hidle, hdone, hno, ?_, hr0, hr1⟩
  change v.env.tail = rest
  rw [hve]
  exact congrArg List.tail hte

end Sys2Proof.Machine
end

section
/-! PROOFS. The runs of FREQ_DETECT's loop: a sample period, and a window of samples (spec/43_sensors.md section 2). -/

namespace Sys2Proof.Machine

variable {s t u v : State} {ch : Int} {c l r : List CycleInput} {k n : Nat} {b : Bool} {F G : UnitF}

/-! ## A sample period -/

/-- The state with unit F at `F`. -/
def State.withF (F : UnitF) (s : State) : State := { s with unitF := F }

/-- Unit F after it has taken sample `b` (R240, R242). -/
def UnitF.sampled (F : UnitF) (b : Bool) : UnitF where
  fk := F.fk + 1
  fph := 0
  ec := if F.prev = some false ∧ b = true then F.ec + 1 else F.ec
  prev := some b

theorem countSample_eq (s : State) : s.countSample = s.withF (s.unitF.sampled s.input.freqIn) := rfl

theorem afterSample_later (s : State) (e : List CycleInput) (n : Nat) :
    (s.later e n).afterSample = s.afterSample.later e n := by
  have hF : (s.later e n).unitF = s.unitF := rfl
  unfold State.afterSample
  rw [hF]
  dsimp only
  split_ifs <;> rfl

/-- A cycle between samples counts FPH up (R245). -/
theorem sampleCycle_count (hk : k < 999) (s : State) (F : UnitF) :
    (s.withF { F with fph := BitVec.ofNat 10 k }).sampleCycle = s.withF { F with fph := BitVec.ofNat 10 (k + 1) } := by
  have hfph : (BitVec.ofNat 10 k).toNat + 1 < freqSampleUs := by
    rw [BitVec.toNat_ofNat, freqSampleUs]
    omega
  have hsucc : BitVec.ofNat 10 k + 1 = BitVec.ofNat 10 (k + 1) := (BitVec.ofNat_add k 1).symm
  rw [State.sampleCycle, if_pos (by exact hfph), ← hsucc]
  rfl

/-- A sample period: 999 cycles that count FPH up, and the sample of its last cycle (R245). -/
theorem runs_period (hu : SameBlock u (s.withF F)) (hp : s.resumesAt .sample) (hfph : F.fph = 0)
    (hl : u.latched = .ok (.freqDetect ch)) (henv : u.env = c ++ r) (hc : SamplePeriod b c) :
    ∃ t, Runs 1000 u t ∧ SameBlock t (s.withF (F.sampled b)).afterSample ∧ t.latched = .ok (.freqDetect ch) ∧ t.env = r := by
  obtain ⟨hlen, hq, hlast⟩ := hc
  obtain rfl | ⟨w, z, rfl⟩ := List.eq_nil_or_concat c
  · cases hlast
  rw [List.concat_eq_append] at *
  have hw : w.length = 999 := by simpa [freqSampleUs] using hlen
  have hz : z.freqIn = b := by simpa using hlast
  rw [List.append_assoc] at henv
  have he (v : State) (G : UnitF) (hv : SameBlock v (s.withF G)) :
      exec (.freqDetect ch) v.heard = .next ((s.later v.env v.cycle).withF G).sampleCycle := by
    rw [hv.heard_eq]
    exact exec_sample ch hp
  obtain ⟨t, hrun, ht, hlt, hte⟩ :=
    runs_quiet (P := fun k u => SameBlock u (s.withF { F with fph := BitVec.ofNat 10 k })) henv
      (fun x hx => hq x (List.mem_append_left _ hx)) hl (by rw [show BitVec.ofNat 10 0 = F.fph from hfph.symm]; exact hu)
      (fun k u hu hk _ => by
        refine ⟨_, _, (congrArg State.seq hu).trans hp.1, he u _ hu, ?_⟩
        rw [sampleCycle_count (by omega)]
        rfl)
      w.length le_rfl
  rw [List.drop_length, List.nil_append] at hte
  have hin : t.input = z := State.input_cons hte
  have hcount : ((s.later t.env t.cycle).withF { F with fph := BitVec.ofNat 10 w.length }).countSample =
      (s.withF (F.sampled b)).later t.env t.cycle := by
    rw [countSample_eq, show State.input ((s.later t.env t.cycle).withF _) = t.input from rfl, hin, hz]
    rfl
  have hlast := he t _ ht
  rw [sampleCycle_at (by rw [hw]; rfl), hcount, afterSample_later] at hlast
  have hstep := step_quiet (s := t) (hin ▸ hq z (by simp)) ((congrArg State.seq ht).trans hp.1) hlt hlast
  have hrun' := hrun.snoc hstep
  rw [hw] at hrun'
  exact ⟨_, hrun', rfl, (latched_of_exec hlast).trans hlt, congrArg List.tail hte⟩

/-! ## A window -/

theorem sampled_ec_toNat (h : F.ec.toNat + 1 < 65536) :
    (F.sampled b).ec.toNat = F.ec.toNat + if F.prev = some false ∧ b = true then 1 else 0 := by
  unfold UnitF.sampled
  split
  · exact toNat_succ h
  · rfl

/-- The samples of a window, or of what is left of it, from the cycle after a sample to the last one (R241, R242). -/
theorem runs_window {vs : List Bool} {cs : List (List CycleInput)} {base : Nat} (hc : List.Forall₂ SamplePeriod vs cs)
    (hp : s.resumesAt .sample) (hbase : base = 0 ∨ base = 1000) (hne : vs ≠ []) (hu : SameBlock u (s.withF F))
    (hfph : F.fph = 0) (hl : u.latched = .ok (.freqDetect ch)) (henv : u.env = cs.flatten ++ r) (hlo : base ≤ F.fk.toNat)
    (hhi : F.fk.toNat + vs.length ≤ base + 1000) (hec : F.ec.toNat + vs.length < 65536) :
    ∃ t G, Runs (1000 * vs.length) u t ∧ SameBlock t (s.withF G).afterSample ∧ t.latched = .ok (.freqDetect ch) ∧
      t.env = r ∧ G.fk.toNat = F.fk.toNat + vs.length ∧ G.fph = 0 ∧ G.ec.toNat = F.ec.toNat + edges F.prev vs ∧
      G.prev = vs.getLast? := by
  induction hc generalizing u F with
  | nil => exact (hne rfl).elim
  | @cons b c vs cs hperiod hrest ih =>
    simp only [List.length_cons] at hhi hec
    obtain ⟨t, hrun, ht, hlt, hte⟩ :=
      runs_period hu hp hfph hl (by rw [henv, List.flatten_cons, List.append_assoc]) hperiod
    have hfk : (F.sampled b).fk.toNat = F.fk.toNat + 1 := toNat_succ (by omega)
    have hec' : (F.sampled b).ec.toNat = F.ec.toNat + if F.prev = some false ∧ b = true then 1 else 0 :=
      sampled_ec_toNat (by omega)
    by_cases hvs : vs = []
    · subst hvs
      cases hrest
      exact ⟨t, F.sampled b, hrun, ht, hlt, hte, hfk, rfl, by rw [hec']; rfl, rfl⟩
    · have hpos : 0 < vs.length := List.length_pos_of_ne_nil hvs
      have hinside : (s.withF (F.sampled b)).afterSample = s.withF (F.sampled b) := by
        apply afterSample_inside
        · change (F.sampled b).fk.toNat % 1000 ≠ 0
          omega
        · change (F.sampled b).fk.toNat < 2000
          omega
      rw [hinside] at ht
      have hedge : (if F.prev = some false ∧ b = true then 1 else 0) ≤ 1 := by split <;> omega
      obtain ⟨t', G, hrun', ht', hlt', hte', hGk, hGp, hGe, hGprev⟩ :=
        ih hvs ht rfl hlt hte (by omega) (by omega) (by omega)
      refine ⟨t', G, ?_, ht', hlt', hte', ?_, hGp, ?_, ?_⟩
      · rw [List.length_cons, Nat.mul_succ, Nat.add_comm]
        exact hrun.add hrun'
      · rw [hGk, hfk, List.length_cons]
        omega
      · rw [hGe, hec', edges, Nat.add_assoc]
        rfl
      · rw [hGprev, List.getLast?_cons_of_ne_nil hvs]

/-- Settles O53: two windows, of which the second begins with the last sample of the first. -/
theorem frequencyCountedOverTwoWindows : Obligations.FrequencyCountedOverTwoWindows := by
  unfold Obligations.FrequencyCountedOverTwoWindows
  intro s ch v1 v2 c1 c2 rest hp hF hl hbusy hv1 hv2 hc1 hc2 henv e1 e2
  have hfk0 : s.unitF.fk.toNat = 0 := by rw [hF]; rfl
  have hec0 : s.unitF.ec.toNat = 0 := by rw [hF]; rfl
  obtain ⟨t, G, hrun, ht, hlt, hte, hGk, hGp, hGe, hGprev⟩ :=
    runs_window (F := s.unitF) hc1 hp (.inl rfl) (List.ne_nil_of_length_pos (by omega)) rfl (by rw [hF]) hl henv (by omega)
      (by omega) (by omega)
  rw [hv1] at hrun hGk
  have hwindow := afterSample_window (s := s.withF G) (by change G.fk.toNat % 1000 = 0; omega)
    (by change G.fk.toNat < 2000; omega)
  rw [hwindow] at ht
  have he1 : (G.ec.toNat : Int) = e1 := by rw [hGe, hec0, hF, Nat.zero_add]
  obtain ⟨t', G', hrun', ht', hlt', hte', hGk', hGp', hGe', hGprev'⟩ :=
    runs_window (s := (s.withF G).windowEnd) (F := { G with ec := 0 }) hc2 hp (.inr rfl)
      (List.ne_nil_of_length_pos (by omega)) ht hGp hlt hte (by change 1000 ≤ G.fk.toNat; omega)
      (by change G.fk.toNat + _ ≤ _; omega) (by change 0 + _ < _; omega)
  rw [hv2] at hrun' hGk'
  have hk' : G'.fk.toNat = 2000 := by
    rw [hGk']
    change G.fk.toNat + 1000 = 2000
    omega
  have hend := afterSample_end (s := (s.withF G).windowEnd.withF G') (by change G'.fk.toNat % 1000 = 0; omega)
    (by change 2000 ≤ G'.fk.toNat; omega)
  rw [hend] at ht'
  have he2 : (G'.ec.toNat : Int) = e2 := by
    rw [hGe', show (0 : BitVec 16).toNat = 0 from rfl, Nat.zero_add, hGprev]
  refine ⟨⟨t, hrun, (congrArg (fun u => u.status.busy) ht).trans hbusy, ?_, ?_⟩,
    t', hrun.add hrun', ⟨congrArg State.seq ht', congrArg (fun u => u.status.busy) ht'⟩,
    congrArg (fun u => u.status.done) ht', hte', ?_, ?_, congrArg (fun u => u.status.clamped) ht',
    (congrArg State.bus ht').trans rfl⟩
  · exact (congrArg State.result0 ht).trans (congrArg (fun e => BitVec.ofInt 32 (classify (e - 2))) he1)
  · exact (congrArg State.result1 ht).trans (congrArg (fun e => BitVec.ofInt 32 (e - 2)) he1)
  · exact (congrArg State.result0 ht').trans (congrArg (fun e => BitVec.ofInt 32 (classify (e - 2))) he2)
  · exact (congrArg State.result1 ht').trans (congrArg (fun e => BitVec.ofInt 32 (e - 2)) he2)

end Sys2Proof.Machine
end
